-- ==== Sys2Proof/Word.lean ====
section
/-! DEFINITION. The machine's word types (00_scope.md R5: DATA_WIDTH 8, ADDR_WIDTH and PC_WIDTH 16, CYC_WIDTH 64).
The widths stand here as literals; Machine/Params.lean proves them equal to the fields of `config` (log entry 15). -/

namespace Sys2Proof

/-- A data byte: AC, IX, IY, SP, P and every memory cell. -/
abbrev Byte := BitVec 8

/-- A 16-bit address: PC and every effective address. -/
abbrev Addr := BitVec 16

/-- A cycle count. -/
abbrev CycleCount := BitVec 64

end Sys2Proof
end

