-- ==== Sys2Proof/Machine/Bits.lean ====
section
/-! DEFINITION. Bit slices, byte order and extension (00_scope.md R6, R7; 20_memory.md R58; 30_encoding.md R87). -/

namespace Sys2Proof

/-- `lo(w) = w[7:0]` (R6). -/
def lo (w : Addr) : Byte := w.extractLsb' 0 8

/-- `hi(w) = w[15:8]` (R6): also the page of an address. -/
def hi (w : Addr) : Byte := w.extractLsb' 8 8

/-- `{h, l} = h * 256 + l` (R6). -/
def word (h l : Byte) : Addr := h ++ l

/-- `zext_16(b)` (R7). -/
def zext16 (b : Byte) : Addr := b.setWidth 16

/-- `sext_16(b)`: two's complement, taken mod 65536 (R7). -/
def sext16 (b : Byte) : Addr := b.signExtend 16

/-- A flag's 0 or 1 as a number (R7). -/
def bitNat (c : Bool) : Nat := if c then 1 else 0

end Sys2Proof
end

