-- ==== Sys2Proof/Syntax.lean ====
section
/-! DEFINITION. The instruction syntax: one constructor per row of spec/opcode_table.json (30_encoding.md R85, R86).
A constructor's name is the row's mnemonic in lower case and then its addressing mode: Imm (Immediate), Acc (Accumulator),
Zp, ZpX, ZpY (Zero Page and its indexed forms), Abs, AbsX, AbsY (Absolute and its indexed forms), IndX (Indexed Indirect
"(zp,X)"), IndY (Indirect Indexed "(zp),Y"), Ind (Indirect); a mnemonic with one mode has no suffix.
An operand byte `b` is the byte `b8` of Format F2, an operand word `w` the word `w16` of Format F3 (R82, R83). -/

namespace Sys2Proof

/-- The 151 instructions of the dispatch table, with their operand byte or word (30_encoding.md R80 to R87). -/
inductive Instr where
  -- ADC (41_arithmetic.md R130)
  | adcImm (b : Byte)
  | adcZp (b : Byte)
  | adcZpX (b : Byte)
  | adcAbs (w : Addr)
  | adcAbsX (w : Addr)
  | adcAbsY (w : Addr)
  | adcIndX (b : Byte)
  | adcIndY (b : Byte)
  -- SBC (41_arithmetic.md R131)
  | sbcImm (b : Byte)
  | sbcZp (b : Byte)
  | sbcZpX (b : Byte)
  | sbcAbs (w : Addr)
  | sbcAbsX (w : Addr)
  | sbcAbsY (w : Addr)
  | sbcIndX (b : Byte)
  | sbcIndY (b : Byte)
  -- AND (42_logic_compare_bit.md R140)
  | andImm (b : Byte)
  | andZp (b : Byte)
  | andZpX (b : Byte)
  | andAbs (w : Addr)
  | andAbsX (w : Addr)
  | andAbsY (w : Addr)
  | andIndX (b : Byte)
  | andIndY (b : Byte)
  -- ORA (42_logic_compare_bit.md R141)
  | oraImm (b : Byte)
  | oraZp (b : Byte)
  | oraZpX (b : Byte)
  | oraAbs (w : Addr)
  | oraAbsX (w : Addr)
  | oraAbsY (w : Addr)
  | oraIndX (b : Byte)
  | oraIndY (b : Byte)
  -- EOR (42_logic_compare_bit.md R142)
  | eorImm (b : Byte)
  | eorZp (b : Byte)
  | eorZpX (b : Byte)
  | eorAbs (w : Addr)
  | eorAbsX (w : Addr)
  | eorAbsY (w : Addr)
  | eorIndX (b : Byte)
  | eorIndY (b : Byte)
  -- CMP (42_logic_compare_bit.md R144)
  | cmpImm (b : Byte)
  | cmpZp (b : Byte)
  | cmpZpX (b : Byte)
  | cmpAbs (w : Addr)
  | cmpAbsX (w : Addr)
  | cmpAbsY (w : Addr)
  | cmpIndX (b : Byte)
  | cmpIndY (b : Byte)
  -- CPX (42_logic_compare_bit.md R145)
  | cpxImm (b : Byte)
  | cpxZp (b : Byte)
  | cpxAbs (w : Addr)
  -- CPY (42_logic_compare_bit.md R146)
  | cpyImm (b : Byte)
  | cpyZp (b : Byte)
  | cpyAbs (w : Addr)
  -- BIT (42_logic_compare_bit.md R147)
  | bitZp (b : Byte)
  | bitAbs (w : Addr)
  -- ASL (43_shift_incdec.md R161)
  | aslAcc
  | aslZp (b : Byte)
  | aslZpX (b : Byte)
  | aslAbs (w : Addr)
  | aslAbsX (w : Addr)
  -- LSR (43_shift_incdec.md R162)
  | lsrAcc
  | lsrZp (b : Byte)
  | lsrZpX (b : Byte)
  | lsrAbs (w : Addr)
  | lsrAbsX (w : Addr)
  -- ROL (43_shift_incdec.md R163)
  | rolAcc
  | rolZp (b : Byte)
  | rolZpX (b : Byte)
  | rolAbs (w : Addr)
  | rolAbsX (w : Addr)
  -- ROR (43_shift_incdec.md R164)
  | rorAcc
  | rorZp (b : Byte)
  | rorZpX (b : Byte)
  | rorAbs (w : Addr)
  | rorAbsX (w : Addr)
  -- INC (43_shift_incdec.md R165)
  | incZp (b : Byte)
  | incZpX (b : Byte)
  | incAbs (w : Addr)
  | incAbsX (w : Addr)
  -- DEC (43_shift_incdec.md R166)
  | decZp (b : Byte)
  | decZpX (b : Byte)
  | decAbs (w : Addr)
  | decAbsX (w : Addr)
  -- INX (43_shift_incdec.md R167)
  | inx
  -- INY (43_shift_incdec.md R168)
  | iny
  -- DEX (43_shift_incdec.md R169)
  | dex
  -- DEY (43_shift_incdec.md R170)
  | dey
  -- BPL (44_branches.md R181)
  | bpl (b : Byte)
  -- BMI (44_branches.md R182)
  | bmi (b : Byte)
  -- BVC (44_branches.md R183)
  | bvc (b : Byte)
  -- BVS (44_branches.md R184)
  | bvs (b : Byte)
  -- BCC (44_branches.md R185)
  | bcc (b : Byte)
  -- BCS (44_branches.md R186)
  | bcs (b : Byte)
  -- BNE (44_branches.md R187)
  | bne (b : Byte)
  -- BEQ (44_branches.md R188)
  | beq (b : Byte)
  -- PHA (45_stack.md R200)
  | pha
  -- PHP (45_stack.md R201)
  | php
  -- PLA (45_stack.md R202)
  | pla
  -- PLP (45_stack.md R203)
  | plp
  -- JMP (46_control_transfer.md R210)
  | jmpAbs (w : Addr)
  | jmpInd (w : Addr)
  -- JSR (46_control_transfer.md R211)
  | jsr (w : Addr)
  -- RTS (46_control_transfer.md R212)
  | rts
  -- BRK (46_control_transfer.md R213)
  | brk
  -- RTI (46_control_transfer.md R214)
  | rti
  -- LDA (47_load_store_transfer_flags.md R230)
  | ldaImm (b : Byte)
  | ldaZp (b : Byte)
  | ldaZpX (b : Byte)
  | ldaAbs (w : Addr)
  | ldaAbsX (w : Addr)
  | ldaAbsY (w : Addr)
  | ldaIndX (b : Byte)
  | ldaIndY (b : Byte)
  -- LDX (47_load_store_transfer_flags.md R231)
  | ldxImm (b : Byte)
  | ldxZp (b : Byte)
  | ldxZpY (b : Byte)
  | ldxAbs (w : Addr)
  | ldxAbsY (w : Addr)
  -- LDY (47_load_store_transfer_flags.md R232)
  | ldyImm (b : Byte)
  | ldyZp (b : Byte)
  | ldyZpX (b : Byte)
  | ldyAbs (w : Addr)
  | ldyAbsX (w : Addr)
  -- STA (47_load_store_transfer_flags.md R233)
  | staZp (b : Byte)
  | staZpX (b : Byte)
  | staAbs (w : Addr)
  | staAbsX (w : Addr)
  | staAbsY (w : Addr)
  | staIndX (b : Byte)
  | staIndY (b : Byte)
  -- STX (47_load_store_transfer_flags.md R234)
  | stxZp (b : Byte)
  | stxZpY (b : Byte)
  | stxAbs (w : Addr)
  -- STY (47_load_store_transfer_flags.md R235)
  | styZp (b : Byte)
  | styZpX (b : Byte)
  | styAbs (w : Addr)
  -- TAX (47_load_store_transfer_flags.md R236)
  | tax
  -- TAY (47_load_store_transfer_flags.md R237)
  | tay
  -- TXA (47_load_store_transfer_flags.md R238)
  | txa
  -- TYA (47_load_store_transfer_flags.md R239)
  | tya
  -- TSX (47_load_store_transfer_flags.md R240)
  | tsx
  -- TXS (47_load_store_transfer_flags.md R241)
  | txs
  -- CLC (47_load_store_transfer_flags.md R242)
  | clc
  -- SEC (47_load_store_transfer_flags.md R243)
  | sec
  -- CLI (47_load_store_transfer_flags.md R244)
  | cli
  -- SEI (47_load_store_transfer_flags.md R245)
  | sei
  -- CLV (47_load_store_transfer_flags.md R246)
  | clv
  -- CLD (47_load_store_transfer_flags.md R247)
  | cld
  -- SED (47_load_store_transfer_flags.md R248)
  | sed
  -- NOP (47_load_store_transfer_flags.md R249)
  | nop
deriving DecidableEq, Repr

end Sys2Proof
end

