-- ==== Sys2Proof/Config.lean ====
section
/-! DEFINITION. The implementation parameters of 00_scope.md R5 as named fields. Their values stand in
Machine/Params.lean. -/

namespace Sys2Proof

/-- One row of CYCLE_TABLE (70_reset_and_hazards.md R350, R351). -/
structure CycleRow where
  /-- The base cost. -/
  base : Nat
  /-- Whether a page crossing adds one cycle (R352). -/
  pagePenalty : Bool
  /-- Whether the branch add-on applies (R353). -/
  isBranch : Bool
deriving DecidableEq, Repr

/-- The parameters fixed for a machine (R5; 10_state.md R36: configuration, not state). -/
structure Config where
  /-- DATA_WIDTH, in bits: the width of `Byte`. -/
  dataWidth : Nat
  /-- ADDR_WIDTH, in bits: the width of `Addr`, for effective addresses; memory has 2 ^ ADDR_WIDTH cells. -/
  addrWidth : Nat
  /-- PC_WIDTH, in bits: the width of `Addr`, for PC. -/
  pcWidth : Nat
  /-- CYC_WIDTH, in bits: the width of `CycleCount`. -/
  cycWidth : Nat
  /-- Last address of WRITABLE_REGION; PROTECTABLE_REGION is every address above it. -/
  writableTop : Addr
  /-- ERASED_VALUE: what a cell nothing has written reads as. -/
  erasedValue : Byte
  /-- STACK_BASE. -/
  stackBase : Addr
  /-- RESET_VECTOR, the address of its low byte. -/
  resetVector : Addr
  /-- BRK_VECTOR, the address of its low byte. -/
  brkVector : Addr
  /-- SP_RESET. -/
  spReset : Byte
  /-- P_RESET. -/
  pReset : Byte
  /-- IMPLEMENTED, the opcodes that have a dispatch entry. -/
  implemented : List Byte
  /-- CYCLE_TABLE, by dispatch entry. -/
  cycleTable : Instr → CycleRow

end Sys2Proof
end

