-- ==== Sys2Proof/Machine/Cycles.lean ====
section
/-! DEFINITION. The parameter CYCLE_TABLE: base cost, page-cross add-on and branch mark of every opcode
(70_reset_and_hazards.md R351 to R353; the fields `cycles_base` and `page_cross_penalty` of spec/opcode_table.json). -/

namespace Sys2Proof.Machine

/-- R351, one arm per opcode: base cost, whether a page crossing adds one cycle (R352), whether the branch add-on
of R353 applies. -/
def cycleTable : Instr → CycleRow
  | .adcImm _ => ⟨2, false, false⟩
  | .adcZp _ => ⟨3, false, false⟩
  | .adcZpX _ => ⟨4, false, false⟩
  | .adcAbs _ => ⟨4, false, false⟩
  | .adcAbsX _ => ⟨4, true, false⟩
  | .adcAbsY _ => ⟨4, true, false⟩
  | .adcIndX _ => ⟨6, false, false⟩
  | .adcIndY _ => ⟨5, true, false⟩
  | .sbcImm _ => ⟨2, false, false⟩
  | .sbcZp _ => ⟨3, false, false⟩
  | .sbcZpX _ => ⟨4, false, false⟩
  | .sbcAbs _ => ⟨4, false, false⟩
  | .sbcAbsX _ => ⟨4, true, false⟩
  | .sbcAbsY _ => ⟨4, true, false⟩
  | .sbcIndX _ => ⟨6, false, false⟩
  | .sbcIndY _ => ⟨5, true, false⟩
  | .andImm _ => ⟨2, false, false⟩
  | .andZp _ => ⟨3, false, false⟩
  | .andZpX _ => ⟨4, false, false⟩
  | .andAbs _ => ⟨4, false, false⟩
  | .andAbsX _ => ⟨4, true, false⟩
  | .andAbsY _ => ⟨4, true, false⟩
  | .andIndX _ => ⟨6, false, false⟩
  | .andIndY _ => ⟨5, true, false⟩
  | .oraImm _ => ⟨2, false, false⟩
  | .oraZp _ => ⟨3, false, false⟩
  | .oraZpX _ => ⟨4, false, false⟩
  | .oraAbs _ => ⟨4, false, false⟩
  | .oraAbsX _ => ⟨4, true, false⟩
  | .oraAbsY _ => ⟨4, true, false⟩
  | .oraIndX _ => ⟨6, false, false⟩
  | .oraIndY _ => ⟨5, true, false⟩
  | .eorImm _ => ⟨2, false, false⟩
  | .eorZp _ => ⟨3, false, false⟩
  | .eorZpX _ => ⟨4, false, false⟩
  | .eorAbs _ => ⟨4, false, false⟩
  | .eorAbsX _ => ⟨4, true, false⟩
  | .eorAbsY _ => ⟨4, true, false⟩
  | .eorIndX _ => ⟨6, false, false⟩
  | .eorIndY _ => ⟨5, true, false⟩
  | .cmpImm _ => ⟨2, false, false⟩
  | .cmpZp _ => ⟨3, false, false⟩
  | .cmpZpX _ => ⟨4, false, false⟩
  | .cmpAbs _ => ⟨4, false, false⟩
  | .cmpAbsX _ => ⟨4, true, false⟩
  | .cmpAbsY _ => ⟨4, true, false⟩
  | .cmpIndX _ => ⟨6, false, false⟩
  | .cmpIndY _ => ⟨5, true, false⟩
  | .cpxImm _ => ⟨2, false, false⟩
  | .cpxZp _ => ⟨3, false, false⟩
  | .cpxAbs _ => ⟨4, false, false⟩
  | .cpyImm _ => ⟨2, false, false⟩
  | .cpyZp _ => ⟨3, false, false⟩
  | .cpyAbs _ => ⟨4, false, false⟩
  | .bitZp _ => ⟨3, false, false⟩
  | .bitAbs _ => ⟨4, false, false⟩
  | .aslAcc => ⟨2, false, false⟩
  | .aslZp _ => ⟨5, false, false⟩
  | .aslZpX _ => ⟨6, false, false⟩
  | .aslAbs _ => ⟨6, false, false⟩
  | .aslAbsX _ => ⟨7, false, false⟩
  | .lsrAcc => ⟨2, false, false⟩
  | .lsrZp _ => ⟨5, false, false⟩
  | .lsrZpX _ => ⟨6, false, false⟩
  | .lsrAbs _ => ⟨6, false, false⟩
  | .lsrAbsX _ => ⟨7, false, false⟩
  | .rolAcc => ⟨2, false, false⟩
  | .rolZp _ => ⟨5, false, false⟩
  | .rolZpX _ => ⟨6, false, false⟩
  | .rolAbs _ => ⟨6, false, false⟩
  | .rolAbsX _ => ⟨7, false, false⟩
  | .rorAcc => ⟨2, false, false⟩
  | .rorZp _ => ⟨5, false, false⟩
  | .rorZpX _ => ⟨6, false, false⟩
  | .rorAbs _ => ⟨6, false, false⟩
  | .rorAbsX _ => ⟨7, false, false⟩
  | .incZp _ => ⟨5, false, false⟩
  | .incZpX _ => ⟨6, false, false⟩
  | .incAbs _ => ⟨6, false, false⟩
  | .incAbsX _ => ⟨7, false, false⟩
  | .decZp _ => ⟨5, false, false⟩
  | .decZpX _ => ⟨6, false, false⟩
  | .decAbs _ => ⟨6, false, false⟩
  | .decAbsX _ => ⟨7, false, false⟩
  | .inx => ⟨2, false, false⟩
  | .iny => ⟨2, false, false⟩
  | .dex => ⟨2, false, false⟩
  | .dey => ⟨2, false, false⟩
  | .bpl _ => ⟨2, false, true⟩
  | .bmi _ => ⟨2, false, true⟩
  | .bvc _ => ⟨2, false, true⟩
  | .bvs _ => ⟨2, false, true⟩
  | .bcc _ => ⟨2, false, true⟩
  | .bcs _ => ⟨2, false, true⟩
  | .bne _ => ⟨2, false, true⟩
  | .beq _ => ⟨2, false, true⟩
  | .pha => ⟨3, false, false⟩
  | .php => ⟨3, false, false⟩
  | .pla => ⟨4, false, false⟩
  | .plp => ⟨4, false, false⟩
  | .jmpAbs _ => ⟨3, false, false⟩
  | .jmpInd _ => ⟨5, false, false⟩
  | .jsr _ => ⟨6, false, false⟩
  | .rts => ⟨6, false, false⟩
  | .brk => ⟨7, false, false⟩
  | .rti => ⟨6, false, false⟩
  | .ldaImm _ => ⟨2, false, false⟩
  | .ldaZp _ => ⟨3, false, false⟩
  | .ldaZpX _ => ⟨4, false, false⟩
  | .ldaAbs _ => ⟨4, false, false⟩
  | .ldaAbsX _ => ⟨4, true, false⟩
  | .ldaAbsY _ => ⟨4, true, false⟩
  | .ldaIndX _ => ⟨6, false, false⟩
  | .ldaIndY _ => ⟨5, true, false⟩
  | .ldxImm _ => ⟨2, false, false⟩
  | .ldxZp _ => ⟨3, false, false⟩
  | .ldxZpY _ => ⟨4, false, false⟩
  | .ldxAbs _ => ⟨4, false, false⟩
  | .ldxAbsY _ => ⟨4, true, false⟩
  | .ldyImm _ => ⟨2, false, false⟩
  | .ldyZp _ => ⟨3, false, false⟩
  | .ldyZpX _ => ⟨4, false, false⟩
  | .ldyAbs _ => ⟨4, false, false⟩
  | .ldyAbsX _ => ⟨4, true, false⟩
  | .staZp _ => ⟨3, false, false⟩
  | .staZpX _ => ⟨4, false, false⟩
  | .staAbs _ => ⟨4, false, false⟩
  | .staAbsX _ => ⟨5, false, false⟩
  | .staAbsY _ => ⟨5, false, false⟩
  | .staIndX _ => ⟨6, false, false⟩
  | .staIndY _ => ⟨6, false, false⟩
  | .stxZp _ => ⟨3, false, false⟩
  | .stxZpY _ => ⟨4, false, false⟩
  | .stxAbs _ => ⟨4, false, false⟩
  | .styZp _ => ⟨3, false, false⟩
  | .styZpX _ => ⟨4, false, false⟩
  | .styAbs _ => ⟨4, false, false⟩
  | .tax => ⟨2, false, false⟩
  | .tay => ⟨2, false, false⟩
  | .txa => ⟨2, false, false⟩
  | .tya => ⟨2, false, false⟩
  | .tsx => ⟨2, false, false⟩
  | .txs => ⟨2, false, false⟩
  | .clc => ⟨2, false, false⟩
  | .sec => ⟨2, false, false⟩
  | .cli => ⟨2, false, false⟩
  | .sei => ⟨2, false, false⟩
  | .clv => ⟨2, false, false⟩
  | .cld => ⟨2, false, false⟩
  | .sed => ⟨2, false, false⟩
  | .nop => ⟨2, false, false⟩

end Sys2Proof.Machine
end

