-- ==== Sys2Proof/WellFormed.lean ====
section
/-! DEFINITION. Well-formedness. The operand of an instruction is a whole byte or a whole 16-bit word, no operand value is
reserved (30_encoding.md R87), and the constructor fixes the addressing mode; so the TYPES carry every bound and every term
of Instr is well formed. What can be ill formed is a byte string that claims to be one instruction: its opcode may have no
dispatch entry (R88) and it may have the wrong length for its opcode (R84). Both checks are `wellFormedBytes`, written
from the opcode map and the length table, apart from the decoder. -/

namespace Sys2Proof

/-- Every term of Instr is well formed: its fields' types admit exactly the values the encoding admits (R87). -/
def Instr.wellFormed (_ : Instr) : Bool := true

/-- The one-byte opcodes: modes Implicit and Accumulator (R81, R86). -/
def opcodesF1 : List Byte :=
  [0x00, 0x08, 0x0A, 0x18, 0x28, 0x2A, 0x38, 0x40, 0x48, 0x4A, 0x58, 0x60, 0x68, 0x6A, 0x78, 0x88, 0x8A, 0x98,
   0x9A, 0xA8, 0xAA, 0xB8, 0xBA, 0xC8, 0xCA, 0xD8, 0xE8, 0xEA, 0xF8]

/-- The two-byte opcodes: Immediate, Zero Page and its indexed forms, (zp,X), (zp),Y, Relative (R82, R86). -/
def opcodesF2 : List Byte :=
  [0x01, 0x05, 0x06, 0x09, 0x10, 0x11, 0x15, 0x16, 0x21, 0x24, 0x25, 0x26, 0x29, 0x30, 0x31, 0x35, 0x36, 0x41,
   0x45, 0x46, 0x49, 0x50, 0x51, 0x55, 0x56, 0x61, 0x65, 0x66, 0x69, 0x70, 0x71, 0x75, 0x76, 0x81, 0x84, 0x85,
   0x86, 0x90, 0x91, 0x94, 0x95, 0x96, 0xA0, 0xA1, 0xA2, 0xA4, 0xA5, 0xA6, 0xA9, 0xB0, 0xB1, 0xB4, 0xB5, 0xB6,
   0xC0, 0xC1, 0xC4, 0xC5, 0xC6, 0xC9, 0xD0, 0xD1, 0xD5, 0xD6, 0xE0, 0xE1, 0xE4, 0xE5, 0xE6, 0xE9, 0xF0, 0xF1,
   0xF5, 0xF6]

/-- The three-byte opcodes: Absolute and its indexed forms, Indirect (R83, R86). -/
def opcodesF3 : List Byte :=
  [0x0D, 0x0E, 0x19, 0x1D, 0x1E, 0x20, 0x2C, 0x2D, 0x2E, 0x39, 0x3D, 0x3E, 0x4C, 0x4D, 0x4E, 0x59, 0x5D, 0x5E,
   0x6C, 0x6D, 0x6E, 0x79, 0x7D, 0x7E, 0x8C, 0x8D, 0x8E, 0x99, 0x9D, 0xAC, 0xAD, 0xAE, 0xB9, 0xBC, 0xBD, 0xBE,
   0xCC, 0xCD, 0xCE, 0xD9, 0xDD, 0xDE, 0xEC, 0xED, 0xEE, 0xF9, 0xFD, 0xFE]

/-- The 105 opcodes without a dispatch entry, as R88 lists them. -/
def unimplementedOpcodes : List Byte :=
  [0x02, 0x03, 0x04, 0x07, 0x0B, 0x0C, 0x0F, 0x12, 0x13, 0x14, 0x17, 0x1A, 0x1B, 0x1C, 0x1F, 0x22, 0x23, 0x27,
   0x2B, 0x2F, 0x32, 0x33, 0x34, 0x37, 0x3A, 0x3B, 0x3C, 0x3F, 0x42, 0x43, 0x44, 0x47, 0x4B, 0x4F, 0x52, 0x53,
   0x54, 0x57, 0x5A, 0x5B, 0x5C, 0x5F, 0x62, 0x63, 0x64, 0x67, 0x6B, 0x6F, 0x72, 0x73, 0x74, 0x77, 0x7A, 0x7B,
   0x7C, 0x7F, 0x80, 0x82, 0x83, 0x87, 0x89, 0x8B, 0x8F, 0x92, 0x93, 0x97, 0x9B, 0x9C, 0x9E, 0x9F, 0xA3, 0xA7,
   0xAB, 0xAF, 0xB2, 0xB3, 0xB7, 0xBB, 0xBF, 0xC2, 0xC3, 0xC7, 0xCB, 0xCF, 0xD2, 0xD3, 0xD4, 0xD7, 0xDA, 0xDB,
   0xDC, 0xDF, 0xE2, 0xE3, 0xE7, 0xEB, 0xEF, 0xF2, 0xF3, 0xF4, 0xF7, 0xFA, 0xFB, 0xFC, 0xFF]

/-- The length of an instruction by its opcode (R84); `none` for an opcode without an entry. -/
def opcodeLength (op : Byte) : Option Nat :=
  if op ∈ opcodesF1 then some 1
  else if op ∈ opcodesF2 then some 2
  else if op ∈ opcodesF3 then some 3
  else none

/-- A byte string is one whole instruction: an implemented opcode and exactly its operand bytes. -/
def wellFormedBytes : List Byte → Bool
  | [] => false
  | op :: rest => opcodeLength op == some (rest.length + 1)

end Sys2Proof
end

