-- ==== Sys2Proof/Machine/Params.lean ====
section
/-! DEFINITION. The values of the parameters (00_scope.md R5; 92_eei_decisions.md D2 to D7), and the word types at the widths
among them. -/

namespace Sys2Proof.Machine

/-- The parameters of this hardware, each at the value R5 gives. -/
def config : Config where
  dataWidth := 8
  addrWidth := 16
  pcWidth := 16
  cycWidth := 64
  writableTop := 0x7FFF
  erasedValue := 0xFF
  stackBase := 0x0100
  resetVector := 0xFFFC
  brkVector := 0xFFFE
  spReset := 0xFF
  pReset := 0x30
  implemented := opcodesF1 ++ opcodesF2 ++ opcodesF3
  cycleTable := cycleTable

/-- The byte type has DATA_WIDTH bits (log entry 15). -/
theorem byte_eq_dataWidth : Byte = BitVec config.dataWidth := rfl

/-- The address type has ADDR_WIDTH bits (log entry 15). -/
theorem addr_eq_addrWidth : Addr = BitVec config.addrWidth := rfl

/-- PC's type has PC_WIDTH bits (log entry 15). -/
theorem addr_eq_pcWidth : Addr = BitVec config.pcWidth := rfl

/-- CYC's type has CYC_WIDTH bits (log entry 15). -/
theorem cycleCount_eq_cycWidth : CycleCount = BitVec config.cycWidth := rfl

end Sys2Proof.Machine
end

