-- ==== Sys2Proof/Machine/Memory.lean ====
section
/-! DEFINITION. The memory M of 65,536 byte cells (20_memory.md R50, R51) as plain data in one canonical form: the cells
that differ from the erased value, by strictly rising address. -/

namespace Sys2Proof.Machine

/-- M, as (address, byte) pairs. A cell the list does not name holds the erased value. -/
abbrev Memory := List Host.Cell

/-- What an unlisted cell reads as: the power-up fill, 0xFF (R51). -/
def Memory.unlisted : Byte := config.erasedValue

/-- Memory at power-up: every cell erased (R51). -/
def Memory.erased : Memory := []

/-- The byte stored at an address. -/
def Memory.read : Memory → Nat → Byte
  | [], _ => Memory.unlisted
  | c :: m, a => if c.1 = a then c.2 else Memory.read m a

/-- Forget every entry for an address. -/
def Memory.erase (m : Memory) (a : Nat) : Memory := m.filter (fun c => c.1 ≠ a)

/-- Put an entry before the first entry with a larger address. -/
def Memory.insert : Memory → Nat → Byte → Memory
  | [], a, v => [(a, v)]
  | c :: m, a, v => if a < c.1 then (a, v) :: c :: m else c :: Memory.insert m a v

/-- Store a byte at an address. Storing the erased value removes the entry, so equal memories are equal lists. -/
def Memory.write (m : Memory) (a : Nat) (v : Byte) : Memory :=
  if v = Memory.unlisted then m.erase a else (m.erase a).insert a v

/-- The canonical form: addresses strictly rising and inside the address space, no entry that holds the erased value. -/
abbrev Memory.wf (m : Memory) : Prop :=
  m.Pairwise (fun c d => c.1 < d.1) ∧ ∀ c ∈ m, c.1 < 2 ^ config.addrWidth ∧ c.2 ≠ Memory.unlisted

/-- readWord on a memory: little-endian, the high byte's address wraps mod 65536 (R54). -/
def Memory.readWord (m : Memory) (a : Addr) : Addr :=
  word (m.read (a + 1).toNat) (m.read a.toNat)

end Sys2Proof.Machine
end

