-- ==== Sys2Proof/Machine/State.lean ====
section
/-! DEFINITION. The architectural state (10_state.md R20 to R36), the reasons a step can stop, and the state after reset
(R35; 70_reset_and_hazards.md R330). -/

namespace Sys2Proof.Machine

/-- The illegal-instruction report (60_exceptions.md R300, R301). -/
structure HaltReport where
  /-- The address of the offending opcode byte. -/
  haltPC : Addr
  /-- The offending opcode byte. -/
  haltOp : Byte
deriving DecidableEq, Repr

/-- The state record of R20. -/
structure State where
  /-- AC, the accumulator (R21). -/
  ac : Byte
  /-- IX, index register X (R22). -/
  ix : Byte
  /-- IY, index register Y (R23). -/
  iy : Byte
  /-- SP, the offset into the stack window (R24). -/
  sp : Byte
  /-- PC, the address of the next opcode byte (R25). -/
  pc : Addr
  /-- P, the packed flag register, held whole (R26): no bit is hardwired in storage (R30). -/
  p : Byte
  /-- CYC, the cycle counter (R31). -/
  cyc : CycleCount
  /-- `halted` with `haltPC` and `haltOp` (R32): `none` is halted = 0, when the two have no meaning
  (93_implementation_defined.md U2; log entry 1). -/
  halt : Option HaltReport
  /-- M (20_memory.md R50). -/
  mem : Memory
  /-- progMode, the memory subsystem's programming-mode bit (20_memory.md R56). -/
  progMode : Bool
deriving DecidableEq, Repr

/-- Why a step stops with a fault. The spec gives this core no such stop: the illegal-instruction halt is a state the core
is in (60_exceptions.md R300 to R302), BRK is a trap it takes (R304), and every other operation "cannot fail" (R303).
So there is no constructor; nothing raises a fault. -/
inductive Fault where
deriving DecidableEq, Repr

/-- Why an instruction is refused. -/
inductive Refusal where
  /-- Raised only by an arm of `exec` whose instruction has no meaning yet. No arm does. Safe. -/
  | notModelled (mnemonic : String)
deriving DecidableEq, Repr

/-- `halted` (R32). -/
def State.halted (s : State) : Bool := s.halt.isSome

/-- What `reset()` leaves, over a memory and a programming-mode bit that it does not change (R35, R330). It reads no
register, so it needs no state before the first reset (R331; log entry 3). -/
def State.afterReset (mem : Memory) (progMode : Bool) : State where
  ac := 0x00
  ix := 0x00
  iy := 0x00
  sp := config.spReset
  pc := mem.readWord config.resetVector
  p := config.pReset
  cyc := 0
  halt := none
  mem := mem
  progMode := progMode

/-- The machine right after power-up and reset: memory erased, programming mode clear (R35). The reset vector then holds
0xFFFF (R332). -/
def State.reset : State := State.afterReset Memory.erased false

end Sys2Proof.Machine
end

