-- ==== Sys2Proof/Machine/Flags.lean ====
section
/-! DEFINITION. The flag unit (10_state.md R26 to R30) and every flag computation of the instruction rules. -/

namespace Sys2Proof.Machine

/-- The eight flags of P (R26). -/
inductive Flag where
  | n | v | u | b | d | i | z | c
deriving DecidableEq, Repr

/-- A flag's bit number in P (R26). -/
def Flag.bit : Flag → Nat
  | .n => 7
  | .v => 6
  | .u => 5
  | .b => 4
  | .d => 3
  | .i => 2
  | .z => 1
  | .c => 0

/-- The byte with that one bit set. -/
def Flag.mask (f : Flag) : Byte := 1#8 <<< f.bit

/-- Test one flag of a P byte (R28). -/
def getFlag (p : Byte) (f : Flag) : Bool := p.getLsbD f.bit

/-- Assign one flag of a P byte, and no other bit (R28). -/
def setFlag (p : Byte) (f : Flag) (x : Bool) : Byte :=
  if x then p ||| f.mask else p &&& ~~~f.mask

/-- `SetNZ(v)`: N is the result's bit 7, Z says whether it is zero (R29). -/
def setNZ (p : Byte) (v : Byte) : Byte :=
  setFlag (setFlag p .n (v.getLsbD 7)) .z (v == 0)

/-- The pull invariant: a pulled byte enters P with bits 5 and 4 forced to 1 (R27). -/
def pulledP (b : Byte) : Byte := b ||| 0x30

/-- V of ADC, from the operands and the low byte of r (41_arithmetic.md R130). -/
def overflowAdd (a m r : Byte) : Bool := ((~~~(a ^^^ m)) &&& (a ^^^ r) &&& 0x80) != 0

/-- V of SBC, from the operands and the low byte of r (41_arithmetic.md R131). -/
def overflowSub (a m r : Byte) : Bool := ((a ^^^ m) &&& (a ^^^ r) &&& 0x80) != 0

/-- Assign N, V, Z and C together. -/
def setNVZC (p : Byte) (n v z c : Bool) : Byte :=
  setFlag (setFlag (setFlag (setFlag p .n n) .v v) .z z) .c c

/-- N, Z and C from an 8-bit result and a carry: compare, shift and rotate. -/
def setNZC (p : Byte) (r : Byte) (c : Bool) : Byte := setFlag (setNZ p r) .c c

/-- `Compare(reg, M8)`: N and Z from the difference, C is "no borrow", unsigned (42_logic_compare_bit.md R143). -/
def compareFlags (p : Byte) (reg m : Byte) : Byte :=
  setNZC p (reg - m) (decide (m.toNat ≤ reg.toNat))

/-- BIT: Z from AC & M8, N and V from bits 7 and 6 of M8 (42_logic_compare_bit.md R147). -/
def bitTestFlags (p : Byte) (ac m : Byte) : Byte :=
  setFlag (setFlag (setFlag p .z ((ac &&& m) == 0)) .n (m.getLsbD 7)) .v (m.getLsbD 6)

end Sys2Proof.Machine
end

