-- ==== Sys2Proof/Machine/Ops.lean ====
section
/-! DEFINITION. The named operations over registers and memory: field updates, the memory port (20_memory.md R52 to R57),
the stack (R59 to R64), the cycle charge (70_reset_and_hazards.md R350), taking the BRK trap and returning from it
(46_control_transfer.md R213, R214; 60_exceptions.md R304, R305), and the illegal-instruction halt (R300). -/

namespace Sys2Proof.Machine

/-! ### Register writes -/

def State.withAc (s : State) (v : Byte) : State := { s with ac := v }
def State.withIx (s : State) (v : Byte) : State := { s with ix := v }
def State.withIy (s : State) (v : Byte) : State := { s with iy := v }
def State.withSp (s : State) (v : Byte) : State := { s with sp := v }
def State.withPc (s : State) (v : Addr) : State := { s with pc := v }
def State.withP (s : State) (v : Byte) : State := { s with p := v }
def State.withCyc (s : State) (v : CycleCount) : State := { s with cyc := v }
def State.withHalt (s : State) (v : Option HaltReport) : State := { s with halt := v }
def State.withMem (s : State) (v : Memory) : State := { s with mem := v }
def State.withProgMode (s : State) (v : Bool) : State := { s with progMode := v }

/-- Test a flag of P (10_state.md R28). -/
def State.flag (s : State) (f : Flag) : Bool := getFlag s.p f

/-- Assign a flag of P (10_state.md R28). -/
def State.withFlag (s : State) (f : Flag) (x : Bool) : State := s.withP (setFlag s.p f x)

/-- Move PC past the `n` bytes of an instruction, mod 65536 (40_pipeline_addressing.md R101). -/
def State.advance (s : State) (n : Nat) : State := s.withPc (s.pc + BitVec.ofNat 16 n)

/-- Charge `n` cycles, mod 2^64 (70_reset_and_hazards.md R350; 10_state.md R31). -/
def State.charge (s : State) (n : Nat) : State := s.withCyc (s.cyc + BitVec.ofNat 64 n)

/-- Put a value in AC and set N and Z from it (10_state.md R29). -/
def loadAc (v : Byte) (s : State) : State := (s.withAc v).withP (setNZ s.p v)

/-- Put a value in IX and set N and Z from it (10_state.md R29). -/
def loadIx (v : Byte) (s : State) : State := (s.withIx v).withP (setNZ s.p v)

/-- Put a value in IY and set N and Z from it (10_state.md R29). -/
def loadIy (v : Byte) (s : State) : State := (s.withIy v).withP (setNZ s.p v)

/-! ### The memory port -/

/-- readByte (20_memory.md R52). -/
def State.readByte (s : State) (a : Addr) : Byte := s.mem.read a.toNat

/-- Whether a write to an address takes effect: the writable region always, the protectable region in programming mode
(20_memory.md R53). -/
def State.writable (s : State) (a : Addr) : Bool := decide (a ≤ config.writableTop) || s.progMode

/-- writeByte: a write that may not take effect is silently discarded (20_memory.md R53). -/
def State.writeByte (s : State) (a : Addr) (v : Byte) : State :=
  if s.writable a then s.withMem (s.mem.write a.toNat v) else s

/-- readWord: low byte at `a`, high byte at `a + 1` mod 65536 (20_memory.md R54). -/
def State.readWord (s : State) (a : Addr) : Addr := s.mem.readWord a

/-- writeWord: two byte writes, low byte first, the second address mod 65536 (20_memory.md R55). -/
def State.writeWord (s : State) (a : Addr) (w : Addr) : State :=
  (s.writeByte a (lo w)).writeByte (a + 1) (hi w)

/-! ### The stack -/

/-- The cell of the stack window that an SP value names (20_memory.md R59). -/
def stackAddr (sp : Byte) : Addr := config.stackBase + zext16 sp

/-- Push: write, then decrement SP mod 256 (20_memory.md R60). -/
def State.push (s : State) (v : Byte) : State :=
  (s.writeByte (stackAddr s.sp) v).withSp (s.sp - 1)

/-- Pull: increment SP mod 256, then read (20_memory.md R61). -/
def State.pull (s : State) : Byte × State :=
  let t := s.withSp (s.sp + 1)
  (t.readByte (stackAddr t.sp), t)

/-- Push16: high byte first, then low byte (20_memory.md R62). -/
def State.push16 (s : State) (w : Addr) : State := (s.push (hi w)).push (lo w)

/-- Pull16: low byte first, then high byte (20_memory.md R63). -/
def State.pull16 (s : State) : Addr × State :=
  let l := s.pull
  let h := l.2.pull
  (word h.1 l.1, h.2)

/-! ### Traps and the halt -/

/-- Taking the trap (60_exceptions.md R304; 46_control_transfer.md R213): push the return address, high byte first, push
the whole P byte, set P.I, and read the new PC from the BRK vector, in that order. -/
def State.takeTrap (s : State) (returnAddr : Addr) : State :=
  let t := ((s.push16 returnAddr).push s.p).withFlag .i true
  t.withPc (t.readWord config.brkVector)

/-- Returning from the trap (60_exceptions.md R305; 46_control_transfer.md R214): pull P under the pull invariant, then
pull PC, with nothing added to it. -/
def State.returnFromTrap (s : State) : State :=
  let flags := s.pull
  let ret := (flags.2.withP (pulledP flags.1)).pull16
  ret.2.withPc ret.1

/-- `raise IllegalInstruction(pc0, op)`: the core is halted with the report, and nothing else changes
(60_exceptions.md R300). -/
def State.raiseIllegal (s : State) (pc0 : Addr) (op : Byte) : State := s.withHalt (some ⟨pc0, op⟩)

end Sys2Proof.Machine
end

