-- ==== Sys2Proof/Machine/Operands.lean ====
section
/-! DEFINITION. The addressing-mode resolver (40_pipeline_addressing.md R101 to R115), the operand kinds it hands to an
instruction (R102), the cost of an instruction (70_reset_and_hazards.md R350), and the shared frame of a step: resolve,
move PC, run the semantics, charge. Operands and pointers are read in the state at the start of the step (R103). -/

namespace Sys2Proof.Machine

/-- The modes that yield the address of a data byte, each with its operand byte or word. -/
inductive MemMode where
  | zeroPage (b : Byte)
  | zeroPageX (b : Byte)
  | zeroPageY (b : Byte)
  | absolute (w : Addr)
  | absoluteX (w : Addr)
  | absoluteY (w : Addr)
  | indexedIndirect (b : Byte)
  | indirectIndexed (b : Byte)
deriving DecidableEq, Repr

/-- The operand of a `read` instruction: the immediate byte or a memory byte (R102). -/
inductive ReadOperand where
  | immediate (b : Byte)
  | memory (m : MemMode)
deriving DecidableEq, Repr

/-- The target of an `rmw` instruction: AC or a memory cell (R102; 43_shift_incdec.md R160). -/
inductive RmwTarget where
  | accumulator
  | memory (m : MemMode)
deriving DecidableEq, Repr

/-- The operand of JMP (R109, R113). -/
inductive JumpOperand where
  | absolute (w : Addr)
  | indirect (w : Addr)
deriving DecidableEq, Repr

/-- Instruction length by mode (30_encoding.md R84). -/
def MemMode.length : MemMode → Nat
  | .zeroPage _ => 2
  | .zeroPageX _ => 2
  | .zeroPageY _ => 2
  | .absolute _ => 3
  | .absoluteX _ => 3
  | .absoluteY _ => 3
  | .indexedIndirect _ => 2
  | .indirectIndexed _ => 2

def ReadOperand.length : ReadOperand → Nat
  | .immediate _ => 2
  | .memory m => m.length

def RmwTarget.length : RmwTarget → Nat
  | .accumulator => 1
  | .memory m => m.length

def JumpOperand.length : JumpOperand → Nat
  | .absolute _ => 3
  | .indirect _ => 3

/-- The base an indexed mode adds its register to, for the page-crossing test; the effective address itself where the
mode tests nothing. -/
def MemMode.base (s : State) : MemMode → Addr
  | .zeroPage b => zext16 b
  | .zeroPageX b => zext16 (b + s.ix)
  | .zeroPageY b => zext16 (b + s.iy)
  | .absolute w => w
  | .absoluteX w => w
  | .absoluteY w => w
  | .indexedIndirect b => s.readWord (zext16 (s.ix + b))
  | .indirectIndexed b => s.readWord (zext16 b)

/-- The effective address: Zero Page R107, Zero Page indexed R108 (wraps in page 0), Absolute R109, Absolute indexed R111,
(zp,X) R110 (the pointer's high byte does not wrap in page 0), (zp),Y R112. -/
def MemMode.ea (s : State) (m : MemMode) : Addr :=
  match m with
  | .zeroPage _ => m.base s
  | .zeroPageX _ => m.base s
  | .zeroPageY _ => m.base s
  | .absolute _ => m.base s
  | .absoluteX _ => m.base s + zext16 s.ix
  | .absoluteY _ => m.base s + zext16 s.iy
  | .indexedIndirect _ => m.base s
  | .indirectIndexed _ => m.base s + zext16 s.iy

/-- `crossed`: the effective address and the base lie in different pages (R111, R112); the other modes report none. -/
def MemMode.crossed (s : State) (m : MemMode) : Bool := hi (m.ea s) != hi (m.base s)

/-- The operand value M8 (R102, R106). -/
def ReadOperand.value (s : State) : ReadOperand → Byte
  | .immediate b => b
  | .memory m => s.readByte (m.ea s)

def ReadOperand.crossed (s : State) : ReadOperand → Bool
  | .immediate _ => false
  | .memory m => m.crossed s

/-- `Read(T)` (43_shift_incdec.md R160). -/
def RmwTarget.value (s : State) : RmwTarget → Byte
  | .accumulator => s.ac
  | .memory m => s.readByte (m.ea s)

def RmwTarget.crossed (s : State) : RmwTarget → Bool
  | .accumulator => false
  | .memory m => m.crossed s

/-- `Write(T, v)`: AC, or the cell resolved in `s`; a write to a protected cell is discarded (20_memory.md R57). -/
def RmwTarget.store (s : State) (t : State) (v : Byte) : RmwTarget → State
  | .accumulator => t.withAc v
  | .memory m => t.writeByte (m.ea s) v

/-- The target of a JMP (R109, R113): Indirect reads the word at the operand's address, with no page wrap. -/
def JumpOperand.target (s : State) : JumpOperand → Addr
  | .absolute w => w
  | .indirect w => s.readWord w

/-- `Cost(op, crossed, taken)` (70_reset_and_hazards.md R350). -/
def cost (i : Instr) (crossed taken : Bool) : Nat :=
  let row := config.cycleTable i
  row.base + (if row.pagePenalty && crossed then 1 else 0)
    + (if row.isBranch && taken then (if crossed then 2 else 1) else 0)

/-- The outcome of a step in this model. -/
abbrev StepOutcome := Host.Outcome State Fault Refusal

/-- A `read` instruction: `sem` is what it does with M8, on a state whose PC is already the next instruction's (R101). -/
def runRead (i : Instr) (o : ReadOperand) (sem : Byte → State → State) (s : State) : StepOutcome :=
  .next ((sem (o.value s) (s.advance o.length)).charge (cost i (o.crossed s) false))

/-- A `write` instruction: store `v` at the effective address. -/
def runWrite (i : Instr) (m : MemMode) (v : Byte) (s : State) : StepOutcome :=
  .next (((s.advance m.length).writeByte (m.ea s) v).charge (cost i (m.crossed s) false))

/-- An `rmw` instruction: `sem` gives the new value and the new P from the old ones; the target is read once and then
written once (43_shift_incdec.md R160). -/
def runRmw (i : Instr) (o : RmwTarget) (sem : Byte → Byte → Byte × Byte) (s : State) : StepOutcome :=
  let r := sem (o.value s) s.p
  .next ((o.store s ((s.advance o.length).withP r.2) r.1).charge (cost i (o.crossed s) false))

/-- An Implicit instruction of one byte (R104). -/
def runImplicit (i : Instr) (sem : State → State) (s : State) : StepOutcome :=
  .next ((sem (s.advance 1)).charge (cost i false false))

/-- The PC after a branch's offset byte (R114). -/
def branchNext (s : State) : Addr := s.pc + 2

/-- A branch's target (R114). -/
def branchTarget (off : Byte) (s : State) : Addr := branchNext s + sext16 off

/-- `Branch(cond)` (44_branches.md R180) with its cost (70_reset_and_hazards.md R353). -/
def runBranch (i : Instr) (off : Byte) (cond : Bool) (s : State) : StepOutcome :=
  let crossed := hi (branchTarget off s) != hi (branchNext s)
  .next ((s.withPc (if cond then branchTarget off s else branchNext s)).charge (cost i crossed cond))

end Sys2Proof.Machine
end

