-- ==== Sys2Proof/Machine/Arithmetic.lean ====
section
/-! DEFINITION. Add and subtract with carry, binary and decimal (41_arithmetic.md R130 to R132). -/

namespace Sys2Proof.Machine

/-- ADC on a P byte, AC, M8: the new AC and the new P. `r` is an exact number; the order of the steps is the rule's
(R130; 92_eei_decisions.md D9, D11). -/
def adcResult (p a m : Byte) : Byte × Byte :=
  let c := bitNat (getFlag p .c)
  let r := a.toNat + m.toNat + c
  let z := r % 256 == 0
  if getFlag p .d then
    let r1 := if a.toNat % 16 + m.toNat % 16 + c > 9 then r + 0x06 else r
    let r2 := if r1 > 0x99 then r1 + 0x60 else r1
    (BitVec.ofNat 8 r2, setNVZC p (r1.testBit 7) (overflowAdd a m (BitVec.ofNat 8 r1)) z (decide (r2 > 0xFF)))
  else
    (BitVec.ofNat 8 r, setNVZC p (r.testBit 7) (overflowAdd a m (BitVec.ofNat 8 r)) z (decide (r > 0xFF)))

/-- SBC on a P byte, AC, M8: the new AC and the new P. `r` is an exact integer; N, V and Z come from it before any decimal
correction, C and AC from it after (R131; 90_conflicts.md C3; 92_eei_decisions.md D10, D11). -/
def sbcResult (p a m : Byte) : Byte × Byte :=
  let b : Int := 1 - (bitNat (getFlag p .c) : Int)
  let r : Int := (a.toNat : Int) - (m.toNat : Int) - b
  let r8 := BitVec.ofInt 8 r
  let r2 :=
    if getFlag p .d then
      let r1 := if ((a.toNat % 16 : Nat) : Int) - b < ((m.toNat % 16 : Nat) : Int) then r - 0x06 else r
      if r1 < 0 ∨ r1 > 0x99 then r1 - 0x60 else r1
    else r
  (BitVec.ofInt 8 r2, setNVZC p (r8.getLsbD 7) (overflowSub a m r8) (r8 == 0) (decide (0 ≤ r2)))

/-- ADC with the operand M8 (R130). -/
def adc (m : Byte) (s : State) : State :=
  (s.withAc (adcResult s.p s.ac m).1).withP (adcResult s.p s.ac m).2

/-- SBC with the operand M8 (R131). -/
def sbc (m : Byte) (s : State) : State :=
  (s.withAc (sbcResult s.p s.ac m).1).withP (sbcResult s.p s.ac m).2

/-- ADC Immediate, opcode 69 (R130). -/
def execAdcImm (b : Byte) (s : State) : StepOutcome := runRead (.adcImm b) (.immediate b) adc s

/-- ADC Zero Page, opcode 65 (R130). -/
def execAdcZp (b : Byte) (s : State) : StepOutcome := runRead (.adcZp b) (.memory (.zeroPage b)) adc s

/-- ADC Zero Page,X, opcode 75 (R130). -/
def execAdcZpX (b : Byte) (s : State) : StepOutcome := runRead (.adcZpX b) (.memory (.zeroPageX b)) adc s

/-- ADC Absolute, opcode 6D (R130). -/
def execAdcAbs (w : Addr) (s : State) : StepOutcome := runRead (.adcAbs w) (.memory (.absolute w)) adc s

/-- ADC Absolute,X, opcode 7D (R130). -/
def execAdcAbsX (w : Addr) (s : State) : StepOutcome := runRead (.adcAbsX w) (.memory (.absoluteX w)) adc s

/-- ADC Absolute,Y, opcode 79 (R130). -/
def execAdcAbsY (w : Addr) (s : State) : StepOutcome := runRead (.adcAbsY w) (.memory (.absoluteY w)) adc s

/-- ADC Indexed Indirect (zp,X), opcode 61 (R130). -/
def execAdcIndX (b : Byte) (s : State) : StepOutcome := runRead (.adcIndX b) (.memory (.indexedIndirect b)) adc s

/-- ADC Indirect Indexed (zp),Y, opcode 71 (R130). -/
def execAdcIndY (b : Byte) (s : State) : StepOutcome := runRead (.adcIndY b) (.memory (.indirectIndexed b)) adc s

/-- SBC Immediate, opcode E9 (R131). -/
def execSbcImm (b : Byte) (s : State) : StepOutcome := runRead (.sbcImm b) (.immediate b) sbc s

/-- SBC Zero Page, opcode E5 (R131). -/
def execSbcZp (b : Byte) (s : State) : StepOutcome := runRead (.sbcZp b) (.memory (.zeroPage b)) sbc s

/-- SBC Zero Page,X, opcode F5 (R131). -/
def execSbcZpX (b : Byte) (s : State) : StepOutcome := runRead (.sbcZpX b) (.memory (.zeroPageX b)) sbc s

/-- SBC Absolute, opcode ED (R131). -/
def execSbcAbs (w : Addr) (s : State) : StepOutcome := runRead (.sbcAbs w) (.memory (.absolute w)) sbc s

/-- SBC Absolute,X, opcode FD (R131). -/
def execSbcAbsX (w : Addr) (s : State) : StepOutcome := runRead (.sbcAbsX w) (.memory (.absoluteX w)) sbc s

/-- SBC Absolute,Y, opcode F9 (R131). -/
def execSbcAbsY (w : Addr) (s : State) : StepOutcome := runRead (.sbcAbsY w) (.memory (.absoluteY w)) sbc s

/-- SBC Indexed Indirect (zp,X), opcode E1 (R131). -/
def execSbcIndX (b : Byte) (s : State) : StepOutcome := runRead (.sbcIndX b) (.memory (.indexedIndirect b)) sbc s

/-- SBC Indirect Indexed (zp),Y, opcode F1 (R131). -/
def execSbcIndY (b : Byte) (s : State) : StepOutcome := runRead (.sbcIndY b) (.memory (.indirectIndexed b)) sbc s

end Sys2Proof.Machine
end

