-- ==== Sys2Proof/Machine/Branches.lean ====
section
/-! DEFINITION. The eight conditional branches (44_branches.md R180 to R188). -/

namespace Sys2Proof.Machine

/-- BPL Relative, opcode 10 (R181). -/
def execBpl (b : Byte) (s : State) : StepOutcome := runBranch (.bpl b) b (!s.flag .n) s

/-- BMI Relative, opcode 30 (R182). -/
def execBmi (b : Byte) (s : State) : StepOutcome := runBranch (.bmi b) b (s.flag .n) s

/-- BVC Relative, opcode 50 (R183). -/
def execBvc (b : Byte) (s : State) : StepOutcome := runBranch (.bvc b) b (!s.flag .v) s

/-- BVS Relative, opcode 70 (R184). -/
def execBvs (b : Byte) (s : State) : StepOutcome := runBranch (.bvs b) b (s.flag .v) s

/-- BCC Relative, opcode 90 (R185). -/
def execBcc (b : Byte) (s : State) : StepOutcome := runBranch (.bcc b) b (!s.flag .c) s

/-- BCS Relative, opcode B0 (R186). -/
def execBcs (b : Byte) (s : State) : StepOutcome := runBranch (.bcs b) b (s.flag .c) s

/-- BNE Relative, opcode D0 (R187). -/
def execBne (b : Byte) (s : State) : StepOutcome := runBranch (.bne b) b (!s.flag .z) s

/-- BEQ Relative, opcode F0 (R188). -/
def execBeq (b : Byte) (s : State) : StepOutcome := runBranch (.beq b) b (s.flag .z) s

end Sys2Proof.Machine
end

