-- ==== Sys2Proof/Machine/ControlTransfer.lean ====
section
/-! DEFINITION. Control transfer (46_control_transfer.md R210 to R214). -/

namespace Sys2Proof.Machine

/-- JMP: PC is the target (R210). The target is resolved in the state at the start of the step. -/
def runJump (i : Instr) (o : JumpOperand) (s : State) : StepOutcome :=
  .next ((s.withPc (o.target s)).charge (cost i false false))

/-- JMP Absolute, opcode 4C (R210). -/
def execJmpAbs (w : Addr) (s : State) : StepOutcome := runJump (.jmpAbs w) (.absolute w) s

/-- JMP Indirect, opcode 6C (R210). -/
def execJmpInd (w : Addr) (s : State) : StepOutcome := runJump (.jmpInd w) (.indirect w) s

/-- JSR Absolute, opcode 20 (R211): push the address of its own last byte, then jump. The target was read before the
push. -/
def execJsr (w : Addr) (s : State) : StepOutcome :=
  .next (((s.push16 (s.pc + 2)).withPc w).charge (cost (.jsr w) false false))

/-- RTS: PC is the pulled word plus 1 (R212). The last sentence of 60_exceptions.md R305, on RTS in place of RTI, disagrees with
the pseudocode of R212 and R213; the model follows the pseudocode (log entry 14). -/
def rts (s : State) : State := s.pull16.2.withPc (s.pull16.1 + 1)

/-- RTS, opcode 60 (R212). -/
def execRts (s : State) : StepOutcome := runImplicit .rts rts s

/-- BRK, opcode 00 (R213): the trap, with return address pc0 + 2. -/
def execBrk (s : State) : StepOutcome :=
  .next ((s.takeTrap (s.pc + 2)).charge (cost .brk false false))

/-- RTI, opcode 40 (R214). -/
def execRti (s : State) : StepOutcome := runImplicit .rti State.returnFromTrap s

end Sys2Proof.Machine
end

