-- ==== Sys2Proof/Machine/LoadStore.lean ====
section
/-! DEFINITION. Loads and stores (47_load_store_transfer_flags.md R230 to R235). -/

namespace Sys2Proof.Machine

/-- LDA Immediate, opcode A9 (R230). -/
def execLdaImm (b : Byte) (s : State) : StepOutcome := runRead (.ldaImm b) (.immediate b) loadAc s

/-- LDA Zero Page, opcode A5 (R230). -/
def execLdaZp (b : Byte) (s : State) : StepOutcome := runRead (.ldaZp b) (.memory (.zeroPage b)) loadAc s

/-- LDA Zero Page,X, opcode B5 (R230). -/
def execLdaZpX (b : Byte) (s : State) : StepOutcome := runRead (.ldaZpX b) (.memory (.zeroPageX b)) loadAc s

/-- LDA Absolute, opcode AD (R230). -/
def execLdaAbs (w : Addr) (s : State) : StepOutcome := runRead (.ldaAbs w) (.memory (.absolute w)) loadAc s

/-- LDA Absolute,X, opcode BD (R230). -/
def execLdaAbsX (w : Addr) (s : State) : StepOutcome := runRead (.ldaAbsX w) (.memory (.absoluteX w)) loadAc s

/-- LDA Absolute,Y, opcode B9 (R230). -/
def execLdaAbsY (w : Addr) (s : State) : StepOutcome := runRead (.ldaAbsY w) (.memory (.absoluteY w)) loadAc s

/-- LDA Indexed Indirect (zp,X), opcode A1 (R230). -/
def execLdaIndX (b : Byte) (s : State) : StepOutcome := runRead (.ldaIndX b) (.memory (.indexedIndirect b)) loadAc s

/-- LDA Indirect Indexed (zp),Y, opcode B1 (R230). -/
def execLdaIndY (b : Byte) (s : State) : StepOutcome := runRead (.ldaIndY b) (.memory (.indirectIndexed b)) loadAc s

/-- LDX Immediate, opcode A2 (R231). -/
def execLdxImm (b : Byte) (s : State) : StepOutcome := runRead (.ldxImm b) (.immediate b) loadIx s

/-- LDX Zero Page, opcode A6 (R231). -/
def execLdxZp (b : Byte) (s : State) : StepOutcome := runRead (.ldxZp b) (.memory (.zeroPage b)) loadIx s

/-- LDX Zero Page,Y, opcode B6 (R231). -/
def execLdxZpY (b : Byte) (s : State) : StepOutcome := runRead (.ldxZpY b) (.memory (.zeroPageY b)) loadIx s

/-- LDX Absolute, opcode AE (R231). -/
def execLdxAbs (w : Addr) (s : State) : StepOutcome := runRead (.ldxAbs w) (.memory (.absolute w)) loadIx s

/-- LDX Absolute,Y, opcode BE (R231). -/
def execLdxAbsY (w : Addr) (s : State) : StepOutcome := runRead (.ldxAbsY w) (.memory (.absoluteY w)) loadIx s

/-- LDY Immediate, opcode A0 (R232). -/
def execLdyImm (b : Byte) (s : State) : StepOutcome := runRead (.ldyImm b) (.immediate b) loadIy s

/-- LDY Zero Page, opcode A4 (R232). -/
def execLdyZp (b : Byte) (s : State) : StepOutcome := runRead (.ldyZp b) (.memory (.zeroPage b)) loadIy s

/-- LDY Zero Page,X, opcode B4 (R232). -/
def execLdyZpX (b : Byte) (s : State) : StepOutcome := runRead (.ldyZpX b) (.memory (.zeroPageX b)) loadIy s

/-- LDY Absolute, opcode AC (R232). -/
def execLdyAbs (w : Addr) (s : State) : StepOutcome := runRead (.ldyAbs w) (.memory (.absolute w)) loadIy s

/-- LDY Absolute,X, opcode BC (R232). -/
def execLdyAbsX (w : Addr) (s : State) : StepOutcome := runRead (.ldyAbsX w) (.memory (.absoluteX w)) loadIy s

/-- STA Zero Page, opcode 85 (R233). -/
def execStaZp (b : Byte) (s : State) : StepOutcome := runWrite (.staZp b) (.zeroPage b) s.ac s

/-- STA Zero Page,X, opcode 95 (R233). -/
def execStaZpX (b : Byte) (s : State) : StepOutcome := runWrite (.staZpX b) (.zeroPageX b) s.ac s

/-- STA Absolute, opcode 8D (R233). -/
def execStaAbs (w : Addr) (s : State) : StepOutcome := runWrite (.staAbs w) (.absolute w) s.ac s

/-- STA Absolute,X, opcode 9D (R233). -/
def execStaAbsX (w : Addr) (s : State) : StepOutcome := runWrite (.staAbsX w) (.absoluteX w) s.ac s

/-- STA Absolute,Y, opcode 99 (R233). -/
def execStaAbsY (w : Addr) (s : State) : StepOutcome := runWrite (.staAbsY w) (.absoluteY w) s.ac s

/-- STA Indexed Indirect (zp,X), opcode 81 (R233). -/
def execStaIndX (b : Byte) (s : State) : StepOutcome := runWrite (.staIndX b) (.indexedIndirect b) s.ac s

/-- STA Indirect Indexed (zp),Y, opcode 91 (R233). -/
def execStaIndY (b : Byte) (s : State) : StepOutcome := runWrite (.staIndY b) (.indirectIndexed b) s.ac s

/-- STX Zero Page, opcode 86 (R234). -/
def execStxZp (b : Byte) (s : State) : StepOutcome := runWrite (.stxZp b) (.zeroPage b) s.ix s

/-- STX Zero Page,Y, opcode 96 (R234). -/
def execStxZpY (b : Byte) (s : State) : StepOutcome := runWrite (.stxZpY b) (.zeroPageY b) s.ix s

/-- STX Absolute, opcode 8E (R234). -/
def execStxAbs (w : Addr) (s : State) : StepOutcome := runWrite (.stxAbs w) (.absolute w) s.ix s

/-- STY Zero Page, opcode 84 (R235). -/
def execStyZp (b : Byte) (s : State) : StepOutcome := runWrite (.styZp b) (.zeroPage b) s.iy s

/-- STY Zero Page,X, opcode 94 (R235). -/
def execStyZpX (b : Byte) (s : State) : StepOutcome := runWrite (.styZpX b) (.zeroPageX b) s.iy s

/-- STY Absolute, opcode 8C (R235). -/
def execStyAbs (w : Addr) (s : State) : StepOutcome := runWrite (.styAbs w) (.absolute w) s.iy s

end Sys2Proof.Machine
end

