-- ==== Sys2Proof/Machine/LogicCompare.lean ====
section
/-! DEFINITION. Logical, compare and bit test (42_logic_compare_bit.md R140 to R147). -/

namespace Sys2Proof.Machine

/-- AND (R140). -/
def andAc (m : Byte) (s : State) : State := loadAc (s.ac &&& m) s

/-- ORA (R141). -/
def oraAc (m : Byte) (s : State) : State := loadAc (s.ac ||| m) s

/-- EOR (R142). -/
def eorAc (m : Byte) (s : State) : State := loadAc (s.ac ^^^ m) s

/-- CMP (R144). -/
def cmp (m : Byte) (s : State) : State := s.withP (compareFlags s.p s.ac m)

/-- CPX (R145). -/
def cpx (m : Byte) (s : State) : State := s.withP (compareFlags s.p s.ix m)

/-- CPY (R146). -/
def cpy (m : Byte) (s : State) : State := s.withP (compareFlags s.p s.iy m)

/-- BIT (R147): AC unchanged. -/
def bitTest (m : Byte) (s : State) : State := s.withP (bitTestFlags s.p s.ac m)

/-- AND Immediate, opcode 29 (R140). -/
def execAndImm (b : Byte) (s : State) : StepOutcome := runRead (.andImm b) (.immediate b) andAc s

/-- AND Zero Page, opcode 25 (R140). -/
def execAndZp (b : Byte) (s : State) : StepOutcome := runRead (.andZp b) (.memory (.zeroPage b)) andAc s

/-- AND Zero Page,X, opcode 35 (R140). -/
def execAndZpX (b : Byte) (s : State) : StepOutcome := runRead (.andZpX b) (.memory (.zeroPageX b)) andAc s

/-- AND Absolute, opcode 2D (R140). -/
def execAndAbs (w : Addr) (s : State) : StepOutcome := runRead (.andAbs w) (.memory (.absolute w)) andAc s

/-- AND Absolute,X, opcode 3D (R140). -/
def execAndAbsX (w : Addr) (s : State) : StepOutcome := runRead (.andAbsX w) (.memory (.absoluteX w)) andAc s

/-- AND Absolute,Y, opcode 39 (R140). -/
def execAndAbsY (w : Addr) (s : State) : StepOutcome := runRead (.andAbsY w) (.memory (.absoluteY w)) andAc s

/-- AND Indexed Indirect (zp,X), opcode 21 (R140). -/
def execAndIndX (b : Byte) (s : State) : StepOutcome := runRead (.andIndX b) (.memory (.indexedIndirect b)) andAc s

/-- AND Indirect Indexed (zp),Y, opcode 31 (R140). -/
def execAndIndY (b : Byte) (s : State) : StepOutcome := runRead (.andIndY b) (.memory (.indirectIndexed b)) andAc s

/-- ORA Immediate, opcode 09 (R141). -/
def execOraImm (b : Byte) (s : State) : StepOutcome := runRead (.oraImm b) (.immediate b) oraAc s

/-- ORA Zero Page, opcode 05 (R141). -/
def execOraZp (b : Byte) (s : State) : StepOutcome := runRead (.oraZp b) (.memory (.zeroPage b)) oraAc s

/-- ORA Zero Page,X, opcode 15 (R141). -/
def execOraZpX (b : Byte) (s : State) : StepOutcome := runRead (.oraZpX b) (.memory (.zeroPageX b)) oraAc s

/-- ORA Absolute, opcode 0D (R141). -/
def execOraAbs (w : Addr) (s : State) : StepOutcome := runRead (.oraAbs w) (.memory (.absolute w)) oraAc s

/-- ORA Absolute,X, opcode 1D (R141). -/
def execOraAbsX (w : Addr) (s : State) : StepOutcome := runRead (.oraAbsX w) (.memory (.absoluteX w)) oraAc s

/-- ORA Absolute,Y, opcode 19 (R141). -/
def execOraAbsY (w : Addr) (s : State) : StepOutcome := runRead (.oraAbsY w) (.memory (.absoluteY w)) oraAc s

/-- ORA Indexed Indirect (zp,X), opcode 01 (R141). -/
def execOraIndX (b : Byte) (s : State) : StepOutcome := runRead (.oraIndX b) (.memory (.indexedIndirect b)) oraAc s

/-- ORA Indirect Indexed (zp),Y, opcode 11 (R141). -/
def execOraIndY (b : Byte) (s : State) : StepOutcome := runRead (.oraIndY b) (.memory (.indirectIndexed b)) oraAc s

/-- EOR Immediate, opcode 49 (R142). -/
def execEorImm (b : Byte) (s : State) : StepOutcome := runRead (.eorImm b) (.immediate b) eorAc s

/-- EOR Zero Page, opcode 45 (R142). -/
def execEorZp (b : Byte) (s : State) : StepOutcome := runRead (.eorZp b) (.memory (.zeroPage b)) eorAc s

/-- EOR Zero Page,X, opcode 55 (R142). -/
def execEorZpX (b : Byte) (s : State) : StepOutcome := runRead (.eorZpX b) (.memory (.zeroPageX b)) eorAc s

/-- EOR Absolute, opcode 4D (R142). -/
def execEorAbs (w : Addr) (s : State) : StepOutcome := runRead (.eorAbs w) (.memory (.absolute w)) eorAc s

/-- EOR Absolute,X, opcode 5D (R142). -/
def execEorAbsX (w : Addr) (s : State) : StepOutcome := runRead (.eorAbsX w) (.memory (.absoluteX w)) eorAc s

/-- EOR Absolute,Y, opcode 59 (R142). -/
def execEorAbsY (w : Addr) (s : State) : StepOutcome := runRead (.eorAbsY w) (.memory (.absoluteY w)) eorAc s

/-- EOR Indexed Indirect (zp,X), opcode 41 (R142). -/
def execEorIndX (b : Byte) (s : State) : StepOutcome := runRead (.eorIndX b) (.memory (.indexedIndirect b)) eorAc s

/-- EOR Indirect Indexed (zp),Y, opcode 51 (R142). -/
def execEorIndY (b : Byte) (s : State) : StepOutcome := runRead (.eorIndY b) (.memory (.indirectIndexed b)) eorAc s

/-- CMP Immediate, opcode C9 (R144). -/
def execCmpImm (b : Byte) (s : State) : StepOutcome := runRead (.cmpImm b) (.immediate b) cmp s

/-- CMP Zero Page, opcode C5 (R144). -/
def execCmpZp (b : Byte) (s : State) : StepOutcome := runRead (.cmpZp b) (.memory (.zeroPage b)) cmp s

/-- CMP Zero Page,X, opcode D5 (R144). -/
def execCmpZpX (b : Byte) (s : State) : StepOutcome := runRead (.cmpZpX b) (.memory (.zeroPageX b)) cmp s

/-- CMP Absolute, opcode CD (R144). -/
def execCmpAbs (w : Addr) (s : State) : StepOutcome := runRead (.cmpAbs w) (.memory (.absolute w)) cmp s

/-- CMP Absolute,X, opcode DD (R144). -/
def execCmpAbsX (w : Addr) (s : State) : StepOutcome := runRead (.cmpAbsX w) (.memory (.absoluteX w)) cmp s

/-- CMP Absolute,Y, opcode D9 (R144). -/
def execCmpAbsY (w : Addr) (s : State) : StepOutcome := runRead (.cmpAbsY w) (.memory (.absoluteY w)) cmp s

/-- CMP Indexed Indirect (zp,X), opcode C1 (R144). -/
def execCmpIndX (b : Byte) (s : State) : StepOutcome := runRead (.cmpIndX b) (.memory (.indexedIndirect b)) cmp s

/-- CMP Indirect Indexed (zp),Y, opcode D1 (R144). -/
def execCmpIndY (b : Byte) (s : State) : StepOutcome := runRead (.cmpIndY b) (.memory (.indirectIndexed b)) cmp s

/-- CPX Immediate, opcode E0 (R145). -/
def execCpxImm (b : Byte) (s : State) : StepOutcome := runRead (.cpxImm b) (.immediate b) cpx s

/-- CPX Zero Page, opcode E4 (R145). -/
def execCpxZp (b : Byte) (s : State) : StepOutcome := runRead (.cpxZp b) (.memory (.zeroPage b)) cpx s

/-- CPX Absolute, opcode EC (R145). -/
def execCpxAbs (w : Addr) (s : State) : StepOutcome := runRead (.cpxAbs w) (.memory (.absolute w)) cpx s

/-- CPY Immediate, opcode C0 (R146). -/
def execCpyImm (b : Byte) (s : State) : StepOutcome := runRead (.cpyImm b) (.immediate b) cpy s

/-- CPY Zero Page, opcode C4 (R146). -/
def execCpyZp (b : Byte) (s : State) : StepOutcome := runRead (.cpyZp b) (.memory (.zeroPage b)) cpy s

/-- CPY Absolute, opcode CC (R146). -/
def execCpyAbs (w : Addr) (s : State) : StepOutcome := runRead (.cpyAbs w) (.memory (.absolute w)) cpy s

/-- BIT Zero Page, opcode 24 (R147). -/
def execBitZp (b : Byte) (s : State) : StepOutcome := runRead (.bitZp b) (.memory (.zeroPage b)) bitTest s

/-- BIT Absolute, opcode 2C (R147). -/
def execBitAbs (w : Addr) (s : State) : StepOutcome := runRead (.bitAbs w) (.memory (.absolute w)) bitTest s

end Sys2Proof.Machine
end

