-- ==== Sys2Proof/Machine/ShiftIncDec.lean ====
section
/-! DEFINITION. Shift, rotate, increment and decrement (43_shift_incdec.md R160 to R170). -/

namespace Sys2Proof.Machine

/-- ASL: bit 7 to C, 0 into bit 0 (R161). New value and new P from the old ones. -/
def aslResult (v p : Byte) : Byte × Byte :=
  let r := v <<< 1
  (r, setNZC p r (v.getLsbD 7))

/-- LSR: bit 0 to C, 0 into bit 7 (R162). -/
def lsrResult (v p : Byte) : Byte × Byte :=
  let r := v >>> 1
  (r, setNZC p r (v.getLsbD 0))

/-- ROL: the old C into bit 0, bit 7 to C (R163). -/
def rolResult (v p : Byte) : Byte × Byte :=
  let r := (v <<< 1) ||| BitVec.ofNat 8 (bitNat (getFlag p .c))
  (r, setNZC p r (v.getLsbD 7))

/-- ROR: the old C into bit 7, bit 0 to C (R164). -/
def rorResult (v p : Byte) : Byte × Byte :=
  let r := (v >>> 1) ||| (BitVec.ofNat 8 (bitNat (getFlag p .c)) <<< 7)
  (r, setNZC p r (v.getLsbD 0))

/-- INC: add 1 mod 256; N and Z only (R165). -/
def incResult (v p : Byte) : Byte × Byte := (v + 1, setNZ p (v + 1))

/-- DEC: subtract 1 mod 256; N and Z only (R166). -/
def decResult (v p : Byte) : Byte × Byte := (v - 1, setNZ p (v - 1))

/-- ASL Accumulator, opcode 0A (R161). -/
def execAslAcc (s : State) : StepOutcome := runRmw .aslAcc .accumulator aslResult s

/-- ASL Zero Page, opcode 06 (R161). -/
def execAslZp (b : Byte) (s : State) : StepOutcome := runRmw (.aslZp b) (.memory (.zeroPage b)) aslResult s

/-- ASL Zero Page,X, opcode 16 (R161). -/
def execAslZpX (b : Byte) (s : State) : StepOutcome := runRmw (.aslZpX b) (.memory (.zeroPageX b)) aslResult s

/-- ASL Absolute, opcode 0E (R161). -/
def execAslAbs (w : Addr) (s : State) : StepOutcome := runRmw (.aslAbs w) (.memory (.absolute w)) aslResult s

/-- ASL Absolute,X, opcode 1E (R161). -/
def execAslAbsX (w : Addr) (s : State) : StepOutcome := runRmw (.aslAbsX w) (.memory (.absoluteX w)) aslResult s

/-- LSR Accumulator, opcode 4A (R162). -/
def execLsrAcc (s : State) : StepOutcome := runRmw .lsrAcc .accumulator lsrResult s

/-- LSR Zero Page, opcode 46 (R162). -/
def execLsrZp (b : Byte) (s : State) : StepOutcome := runRmw (.lsrZp b) (.memory (.zeroPage b)) lsrResult s

/-- LSR Zero Page,X, opcode 56 (R162). -/
def execLsrZpX (b : Byte) (s : State) : StepOutcome := runRmw (.lsrZpX b) (.memory (.zeroPageX b)) lsrResult s

/-- LSR Absolute, opcode 4E (R162). -/
def execLsrAbs (w : Addr) (s : State) : StepOutcome := runRmw (.lsrAbs w) (.memory (.absolute w)) lsrResult s

/-- LSR Absolute,X, opcode 5E (R162). -/
def execLsrAbsX (w : Addr) (s : State) : StepOutcome := runRmw (.lsrAbsX w) (.memory (.absoluteX w)) lsrResult s

/-- ROL Accumulator, opcode 2A (R163). -/
def execRolAcc (s : State) : StepOutcome := runRmw .rolAcc .accumulator rolResult s

/-- ROL Zero Page, opcode 26 (R163). -/
def execRolZp (b : Byte) (s : State) : StepOutcome := runRmw (.rolZp b) (.memory (.zeroPage b)) rolResult s

/-- ROL Zero Page,X, opcode 36 (R163). -/
def execRolZpX (b : Byte) (s : State) : StepOutcome := runRmw (.rolZpX b) (.memory (.zeroPageX b)) rolResult s

/-- ROL Absolute, opcode 2E (R163). -/
def execRolAbs (w : Addr) (s : State) : StepOutcome := runRmw (.rolAbs w) (.memory (.absolute w)) rolResult s

/-- ROL Absolute,X, opcode 3E (R163). -/
def execRolAbsX (w : Addr) (s : State) : StepOutcome := runRmw (.rolAbsX w) (.memory (.absoluteX w)) rolResult s

/-- ROR Accumulator, opcode 6A (R164). -/
def execRorAcc (s : State) : StepOutcome := runRmw .rorAcc .accumulator rorResult s

/-- ROR Zero Page, opcode 66 (R164). -/
def execRorZp (b : Byte) (s : State) : StepOutcome := runRmw (.rorZp b) (.memory (.zeroPage b)) rorResult s

/-- ROR Zero Page,X, opcode 76 (R164). -/
def execRorZpX (b : Byte) (s : State) : StepOutcome := runRmw (.rorZpX b) (.memory (.zeroPageX b)) rorResult s

/-- ROR Absolute, opcode 6E (R164). -/
def execRorAbs (w : Addr) (s : State) : StepOutcome := runRmw (.rorAbs w) (.memory (.absolute w)) rorResult s

/-- ROR Absolute,X, opcode 7E (R164). -/
def execRorAbsX (w : Addr) (s : State) : StepOutcome := runRmw (.rorAbsX w) (.memory (.absoluteX w)) rorResult s

/-- INC Zero Page, opcode E6 (R165). -/
def execIncZp (b : Byte) (s : State) : StepOutcome := runRmw (.incZp b) (.memory (.zeroPage b)) incResult s

/-- INC Zero Page,X, opcode F6 (R165). -/
def execIncZpX (b : Byte) (s : State) : StepOutcome := runRmw (.incZpX b) (.memory (.zeroPageX b)) incResult s

/-- INC Absolute, opcode EE (R165). -/
def execIncAbs (w : Addr) (s : State) : StepOutcome := runRmw (.incAbs w) (.memory (.absolute w)) incResult s

/-- INC Absolute,X, opcode FE (R165). -/
def execIncAbsX (w : Addr) (s : State) : StepOutcome := runRmw (.incAbsX w) (.memory (.absoluteX w)) incResult s

/-- DEC Zero Page, opcode C6 (R166). -/
def execDecZp (b : Byte) (s : State) : StepOutcome := runRmw (.decZp b) (.memory (.zeroPage b)) decResult s

/-- DEC Zero Page,X, opcode D6 (R166). -/
def execDecZpX (b : Byte) (s : State) : StepOutcome := runRmw (.decZpX b) (.memory (.zeroPageX b)) decResult s

/-- DEC Absolute, opcode CE (R166). -/
def execDecAbs (w : Addr) (s : State) : StepOutcome := runRmw (.decAbs w) (.memory (.absolute w)) decResult s

/-- DEC Absolute,X, opcode DE (R166). -/
def execDecAbsX (w : Addr) (s : State) : StepOutcome := runRmw (.decAbsX w) (.memory (.absoluteX w)) decResult s

/-- INX: IX + 1 mod 256 (R167). -/
def inx (s : State) : State := loadIx (s.ix + 1) s

/-- INX Implicit, opcode E8 (R167). -/
def execInx (s : State) : StepOutcome := runImplicit .inx inx s

/-- INY: IY + 1 mod 256 (R168). -/
def iny (s : State) : State := loadIy (s.iy + 1) s

/-- INY Implicit, opcode C8 (R168). -/
def execIny (s : State) : StepOutcome := runImplicit .iny iny s

/-- DEX: IX - 1 mod 256 (R169). -/
def dex (s : State) : State := loadIx (s.ix - 1) s

/-- DEX Implicit, opcode CA (R169). -/
def execDex (s : State) : StepOutcome := runImplicit .dex dex s

/-- DEY: IY - 1 mod 256 (R170). -/
def dey (s : State) : State := loadIy (s.iy - 1) s

/-- DEY Implicit, opcode 88 (R170). -/
def execDey (s : State) : StepOutcome := runImplicit .dey dey s

end Sys2Proof.Machine
end

