-- ==== Sys2Proof/Machine/Stack.lean ====
section
/-! DEFINITION. Stack instructions (45_stack.md R200 to R203). -/

namespace Sys2Proof.Machine

/-- PHA: push AC (R200). -/
def pha (s : State) : State := s.push s.ac

/-- PHA Implicit, opcode 48 (R200). -/
def execPha (s : State) : StepOutcome := runImplicit .pha pha s

/-- PHP: push the whole P byte (R201). -/
def php (s : State) : State := s.push s.p

/-- PHP Implicit, opcode 08 (R201). -/
def execPhp (s : State) : StepOutcome := runImplicit .php php s

/-- PLA: pull AC and set N and Z from it (R202). -/
def pla (s : State) : State := loadAc s.pull.1 s.pull.2

/-- PLA Implicit, opcode 68 (R202). -/
def execPla (s : State) : StepOutcome := runImplicit .pla pla s

/-- PLP: pull the whole P byte, under the pull invariant (R203). -/
def plp (s : State) : State := s.pull.2.withP (pulledP s.pull.1)

/-- PLP Implicit, opcode 28 (R203). -/
def execPlp (s : State) : StepOutcome := runImplicit .plp plp s

end Sys2Proof.Machine
end

