-- ==== Sys2Proof/Machine/TransferFlag.lean ====
section
/-! DEFINITION. Register transfers, flag operations and NOP (47_load_store_transfer_flags.md R236 to R249). -/

namespace Sys2Proof.Machine

/-- TAX: AC to IX, N and Z follow (R236). -/
def tax (s : State) : State := loadIx s.ac s

/-- TAX Implicit, opcode AA (R236). -/
def execTax (s : State) : StepOutcome := runImplicit .tax tax s

/-- TAY: AC to IY, N and Z follow (R237). -/
def tay (s : State) : State := loadIy s.ac s

/-- TAY Implicit, opcode A8 (R237). -/
def execTay (s : State) : StepOutcome := runImplicit .tay tay s

/-- TXA: IX to AC, N and Z follow (R238). -/
def txa (s : State) : State := loadAc s.ix s

/-- TXA Implicit, opcode 8A (R238). -/
def execTxa (s : State) : StepOutcome := runImplicit .txa txa s

/-- TYA: IY to AC, N and Z follow (R239). -/
def tya (s : State) : State := loadAc s.iy s

/-- TYA Implicit, opcode 98 (R239). -/
def execTya (s : State) : StepOutcome := runImplicit .tya tya s

/-- TSX: SP to IX, N and Z follow (R240). -/
def tsx (s : State) : State := loadIx s.sp s

/-- TSX Implicit, opcode BA (R240). -/
def execTsx (s : State) : StepOutcome := runImplicit .tsx tsx s

/-- TXS: IX to SP, no flag (R241). -/
def txs (s : State) : State := s.withSp s.ix

/-- TXS Implicit, opcode 9A (R241). -/
def execTxs (s : State) : StepOutcome := runImplicit .txs txs s

/-- CLC: one flag (R242). -/
def clc (s : State) : State := s.withFlag .c false

/-- CLC Implicit, opcode 18 (R242). -/
def execClc (s : State) : StepOutcome := runImplicit .clc clc s

/-- SEC: one flag (R243). -/
def sec (s : State) : State := s.withFlag .c true

/-- SEC Implicit, opcode 38 (R243). -/
def execSec (s : State) : StepOutcome := runImplicit .sec sec s

/-- CLI: one flag (R244). -/
def cli (s : State) : State := s.withFlag .i false

/-- CLI Implicit, opcode 58 (R244). -/
def execCli (s : State) : StepOutcome := runImplicit .cli cli s

/-- SEI: one flag (R245). -/
def sei (s : State) : State := s.withFlag .i true

/-- SEI Implicit, opcode 78 (R245). -/
def execSei (s : State) : StepOutcome := runImplicit .sei sei s

/-- CLV: one flag (R246). -/
def clv (s : State) : State := s.withFlag .v false

/-- CLV Implicit, opcode B8 (R246). -/
def execClv (s : State) : StepOutcome := runImplicit .clv clv s

/-- CLD: one flag (R247). -/
def cld (s : State) : State := s.withFlag .d false

/-- CLD Implicit, opcode D8 (R247). -/
def execCld (s : State) : StepOutcome := runImplicit .cld cld s

/-- SED: one flag (R248). -/
def sed (s : State) : State := s.withFlag .d true

/-- SED Implicit, opcode F8 (R248). -/
def execSed (s : State) : StepOutcome := runImplicit .sed sed s

/-- NOP: nothing (R249). -/
def nop (s : State) : State := s

/-- NOP Implicit, opcode EA (R249). -/
def execNop (s : State) : StepOutcome := runImplicit .nop nop s

end Sys2Proof.Machine
end

