-- ==== Sys2Proof/Decode.lean ====
section
/-! DEFINITION. Decoding and encoding (30_encoding.md R80 to R88). `dispatch` is the dispatch table: the opcode map's entry
for an opcode of the parameter IMPLEMENTED, `none` for any other. `decode` reads one instruction from a list of bytes and is total: it rejects by name.
`encode` writes an instruction's bytes from the same table. -/

namespace Sys2Proof

/-- A dispatch entry: the instruction form an opcode selects, by its format (R81, R82, R83). -/
inductive Entry where
  /-- Format F1: the opcode alone. -/
  | f1 (i : Instr)
  /-- Format F2: one operand byte `b8` follows. -/
  | f2 (form : Byte → Instr)
  /-- Format F3: two operand bytes follow, the word `w16`, low byte first. -/
  | f3 (form : Addr → Instr)

/-- Why a byte list is not read as an instruction. -/
inductive DecodeError where
  /-- No byte at all. -/
  | noBytes
  /-- The opcode has no dispatch entry (R88); the machine halts on it (60_exceptions.md R300). Safe: it is the spec's own. -/
  | unimplemented (op : Byte)
  /-- The list ends before the operand bytes the opcode's format needs. The machine never meets this: its memory is a ring. -/
  | truncated (op : Byte)
deriving DecidableEq, Repr

/-- The opcode map of R86: an opcode's addressing mode and instruction; `none` where the map has none. -/
def opcodeEntry (op : Byte) : Option Entry :=
  match op.toNat with
  | 0x00 => some (.f1 Instr.brk)
  | 0x01 => some (.f2 Instr.oraIndX)
  | 0x05 => some (.f2 Instr.oraZp)
  | 0x06 => some (.f2 Instr.aslZp)
  | 0x08 => some (.f1 Instr.php)
  | 0x09 => some (.f2 Instr.oraImm)
  | 0x0A => some (.f1 Instr.aslAcc)
  | 0x0D => some (.f3 Instr.oraAbs)
  | 0x0E => some (.f3 Instr.aslAbs)
  | 0x10 => some (.f2 Instr.bpl)
  | 0x11 => some (.f2 Instr.oraIndY)
  | 0x15 => some (.f2 Instr.oraZpX)
  | 0x16 => some (.f2 Instr.aslZpX)
  | 0x18 => some (.f1 Instr.clc)
  | 0x19 => some (.f3 Instr.oraAbsY)
  | 0x1D => some (.f3 Instr.oraAbsX)
  | 0x1E => some (.f3 Instr.aslAbsX)
  | 0x20 => some (.f3 Instr.jsr)
  | 0x21 => some (.f2 Instr.andIndX)
  | 0x24 => some (.f2 Instr.bitZp)
  | 0x25 => some (.f2 Instr.andZp)
  | 0x26 => some (.f2 Instr.rolZp)
  | 0x28 => some (.f1 Instr.plp)
  | 0x29 => some (.f2 Instr.andImm)
  | 0x2A => some (.f1 Instr.rolAcc)
  | 0x2C => some (.f3 Instr.bitAbs)
  | 0x2D => some (.f3 Instr.andAbs)
  | 0x2E => some (.f3 Instr.rolAbs)
  | 0x30 => some (.f2 Instr.bmi)
  | 0x31 => some (.f2 Instr.andIndY)
  | 0x35 => some (.f2 Instr.andZpX)
  | 0x36 => some (.f2 Instr.rolZpX)
  | 0x38 => some (.f1 Instr.sec)
  | 0x39 => some (.f3 Instr.andAbsY)
  | 0x3D => some (.f3 Instr.andAbsX)
  | 0x3E => some (.f3 Instr.rolAbsX)
  | 0x40 => some (.f1 Instr.rti)
  | 0x41 => some (.f2 Instr.eorIndX)
  | 0x45 => some (.f2 Instr.eorZp)
  | 0x46 => some (.f2 Instr.lsrZp)
  | 0x48 => some (.f1 Instr.pha)
  | 0x49 => some (.f2 Instr.eorImm)
  | 0x4A => some (.f1 Instr.lsrAcc)
  | 0x4C => some (.f3 Instr.jmpAbs)
  | 0x4D => some (.f3 Instr.eorAbs)
  | 0x4E => some (.f3 Instr.lsrAbs)
  | 0x50 => some (.f2 Instr.bvc)
  | 0x51 => some (.f2 Instr.eorIndY)
  | 0x55 => some (.f2 Instr.eorZpX)
  | 0x56 => some (.f2 Instr.lsrZpX)
  | 0x58 => some (.f1 Instr.cli)
  | 0x59 => some (.f3 Instr.eorAbsY)
  | 0x5D => some (.f3 Instr.eorAbsX)
  | 0x5E => some (.f3 Instr.lsrAbsX)
  | 0x60 => some (.f1 Instr.rts)
  | 0x61 => some (.f2 Instr.adcIndX)
  | 0x65 => some (.f2 Instr.adcZp)
  | 0x66 => some (.f2 Instr.rorZp)
  | 0x68 => some (.f1 Instr.pla)
  | 0x69 => some (.f2 Instr.adcImm)
  | 0x6A => some (.f1 Instr.rorAcc)
  | 0x6C => some (.f3 Instr.jmpInd)
  | 0x6D => some (.f3 Instr.adcAbs)
  | 0x6E => some (.f3 Instr.rorAbs)
  | 0x70 => some (.f2 Instr.bvs)
  | 0x71 => some (.f2 Instr.adcIndY)
  | 0x75 => some (.f2 Instr.adcZpX)
  | 0x76 => some (.f2 Instr.rorZpX)
  | 0x78 => some (.f1 Instr.sei)
  | 0x79 => some (.f3 Instr.adcAbsY)
  | 0x7D => some (.f3 Instr.adcAbsX)
  | 0x7E => some (.f3 Instr.rorAbsX)
  | 0x81 => some (.f2 Instr.staIndX)
  | 0x84 => some (.f2 Instr.styZp)
  | 0x85 => some (.f2 Instr.staZp)
  | 0x86 => some (.f2 Instr.stxZp)
  | 0x88 => some (.f1 Instr.dey)
  | 0x8A => some (.f1 Instr.txa)
  | 0x8C => some (.f3 Instr.styAbs)
  | 0x8D => some (.f3 Instr.staAbs)
  | 0x8E => some (.f3 Instr.stxAbs)
  | 0x90 => some (.f2 Instr.bcc)
  | 0x91 => some (.f2 Instr.staIndY)
  | 0x94 => some (.f2 Instr.styZpX)
  | 0x95 => some (.f2 Instr.staZpX)
  | 0x96 => some (.f2 Instr.stxZpY)
  | 0x98 => some (.f1 Instr.tya)
  | 0x99 => some (.f3 Instr.staAbsY)
  | 0x9A => some (.f1 Instr.txs)
  | 0x9D => some (.f3 Instr.staAbsX)
  | 0xA0 => some (.f2 Instr.ldyImm)
  | 0xA1 => some (.f2 Instr.ldaIndX)
  | 0xA2 => some (.f2 Instr.ldxImm)
  | 0xA4 => some (.f2 Instr.ldyZp)
  | 0xA5 => some (.f2 Instr.ldaZp)
  | 0xA6 => some (.f2 Instr.ldxZp)
  | 0xA8 => some (.f1 Instr.tay)
  | 0xA9 => some (.f2 Instr.ldaImm)
  | 0xAA => some (.f1 Instr.tax)
  | 0xAC => some (.f3 Instr.ldyAbs)
  | 0xAD => some (.f3 Instr.ldaAbs)
  | 0xAE => some (.f3 Instr.ldxAbs)
  | 0xB0 => some (.f2 Instr.bcs)
  | 0xB1 => some (.f2 Instr.ldaIndY)
  | 0xB4 => some (.f2 Instr.ldyZpX)
  | 0xB5 => some (.f2 Instr.ldaZpX)
  | 0xB6 => some (.f2 Instr.ldxZpY)
  | 0xB8 => some (.f1 Instr.clv)
  | 0xB9 => some (.f3 Instr.ldaAbsY)
  | 0xBA => some (.f1 Instr.tsx)
  | 0xBC => some (.f3 Instr.ldyAbsX)
  | 0xBD => some (.f3 Instr.ldaAbsX)
  | 0xBE => some (.f3 Instr.ldxAbsY)
  | 0xC0 => some (.f2 Instr.cpyImm)
  | 0xC1 => some (.f2 Instr.cmpIndX)
  | 0xC4 => some (.f2 Instr.cpyZp)
  | 0xC5 => some (.f2 Instr.cmpZp)
  | 0xC6 => some (.f2 Instr.decZp)
  | 0xC8 => some (.f1 Instr.iny)
  | 0xC9 => some (.f2 Instr.cmpImm)
  | 0xCA => some (.f1 Instr.dex)
  | 0xCC => some (.f3 Instr.cpyAbs)
  | 0xCD => some (.f3 Instr.cmpAbs)
  | 0xCE => some (.f3 Instr.decAbs)
  | 0xD0 => some (.f2 Instr.bne)
  | 0xD1 => some (.f2 Instr.cmpIndY)
  | 0xD5 => some (.f2 Instr.cmpZpX)
  | 0xD6 => some (.f2 Instr.decZpX)
  | 0xD8 => some (.f1 Instr.cld)
  | 0xD9 => some (.f3 Instr.cmpAbsY)
  | 0xDD => some (.f3 Instr.cmpAbsX)
  | 0xDE => some (.f3 Instr.decAbsX)
  | 0xE0 => some (.f2 Instr.cpxImm)
  | 0xE1 => some (.f2 Instr.sbcIndX)
  | 0xE4 => some (.f2 Instr.cpxZp)
  | 0xE5 => some (.f2 Instr.sbcZp)
  | 0xE6 => some (.f2 Instr.incZp)
  | 0xE8 => some (.f1 Instr.inx)
  | 0xE9 => some (.f2 Instr.sbcImm)
  | 0xEA => some (.f1 Instr.nop)
  | 0xEC => some (.f3 Instr.cpxAbs)
  | 0xED => some (.f3 Instr.sbcAbs)
  | 0xEE => some (.f3 Instr.incAbs)
  | 0xF0 => some (.f2 Instr.beq)
  | 0xF1 => some (.f2 Instr.sbcIndY)
  | 0xF5 => some (.f2 Instr.sbcZpX)
  | 0xF6 => some (.f2 Instr.incZpX)
  | 0xF8 => some (.f1 Instr.sed)
  | 0xF9 => some (.f3 Instr.sbcAbsY)
  | 0xFD => some (.f3 Instr.sbcAbsX)
  | 0xFE => some (.f3 Instr.incAbsX)
  | _ => none

/-- The dispatch table (R85): the opcode map's entry for each opcode of IMPLEMENTED (00_scope.md R5), and no other. -/
def dispatch (op : Byte) : Option Entry :=
  if Machine.config.implemented.contains op then opcodeEntry op else none

/-- Give an entry its operand bytes from the front of a list; the rest of the list is handed back. -/
def readOperands (op : Byte) : Entry → List Byte → Except DecodeError (Instr × List Byte)
  | .f1 i, rest => .ok (i, rest)
  | .f2 form, b :: rest => .ok (form b, rest)
  | .f3 form, l :: h :: rest => .ok (form (word h l), rest)
  | .f2 _, [] => .error (.truncated op)
  | .f3 _, [] => .error (.truncated op)
  | .f3 _, [_] => .error (.truncated op)

/-- Read one instruction from the front of a byte list; the rest of the list is handed back. The opcode alone fixes how
many operand bytes are read (R84). -/
def decode : List Byte → Except DecodeError (Instr × List Byte)
  | [] => .error .noBytes
  | op :: rest =>
    match dispatch op with
    | none => .error (.unimplemented op)
    | some e => readOperands op e rest

/-- The bytes of an instruction, at increasing addresses (R80 to R83, R86). -/
def encode : Instr → List Byte
  | .adcImm b => [0x69, b]
  | .adcZp b => [0x65, b]
  | .adcZpX b => [0x75, b]
  | .adcAbs w => [0x6D, lo w, hi w]
  | .adcAbsX w => [0x7D, lo w, hi w]
  | .adcAbsY w => [0x79, lo w, hi w]
  | .adcIndX b => [0x61, b]
  | .adcIndY b => [0x71, b]
  | .sbcImm b => [0xE9, b]
  | .sbcZp b => [0xE5, b]
  | .sbcZpX b => [0xF5, b]
  | .sbcAbs w => [0xED, lo w, hi w]
  | .sbcAbsX w => [0xFD, lo w, hi w]
  | .sbcAbsY w => [0xF9, lo w, hi w]
  | .sbcIndX b => [0xE1, b]
  | .sbcIndY b => [0xF1, b]
  | .andImm b => [0x29, b]
  | .andZp b => [0x25, b]
  | .andZpX b => [0x35, b]
  | .andAbs w => [0x2D, lo w, hi w]
  | .andAbsX w => [0x3D, lo w, hi w]
  | .andAbsY w => [0x39, lo w, hi w]
  | .andIndX b => [0x21, b]
  | .andIndY b => [0x31, b]
  | .oraImm b => [0x09, b]
  | .oraZp b => [0x05, b]
  | .oraZpX b => [0x15, b]
  | .oraAbs w => [0x0D, lo w, hi w]
  | .oraAbsX w => [0x1D, lo w, hi w]
  | .oraAbsY w => [0x19, lo w, hi w]
  | .oraIndX b => [0x01, b]
  | .oraIndY b => [0x11, b]
  | .eorImm b => [0x49, b]
  | .eorZp b => [0x45, b]
  | .eorZpX b => [0x55, b]
  | .eorAbs w => [0x4D, lo w, hi w]
  | .eorAbsX w => [0x5D, lo w, hi w]
  | .eorAbsY w => [0x59, lo w, hi w]
  | .eorIndX b => [0x41, b]
  | .eorIndY b => [0x51, b]
  | .cmpImm b => [0xC9, b]
  | .cmpZp b => [0xC5, b]
  | .cmpZpX b => [0xD5, b]
  | .cmpAbs w => [0xCD, lo w, hi w]
  | .cmpAbsX w => [0xDD, lo w, hi w]
  | .cmpAbsY w => [0xD9, lo w, hi w]
  | .cmpIndX b => [0xC1, b]
  | .cmpIndY b => [0xD1, b]
  | .cpxImm b => [0xE0, b]
  | .cpxZp b => [0xE4, b]
  | .cpxAbs w => [0xEC, lo w, hi w]
  | .cpyImm b => [0xC0, b]
  | .cpyZp b => [0xC4, b]
  | .cpyAbs w => [0xCC, lo w, hi w]
  | .bitZp b => [0x24, b]
  | .bitAbs w => [0x2C, lo w, hi w]
  | .aslAcc => [0x0A]
  | .aslZp b => [0x06, b]
  | .aslZpX b => [0x16, b]
  | .aslAbs w => [0x0E, lo w, hi w]
  | .aslAbsX w => [0x1E, lo w, hi w]
  | .lsrAcc => [0x4A]
  | .lsrZp b => [0x46, b]
  | .lsrZpX b => [0x56, b]
  | .lsrAbs w => [0x4E, lo w, hi w]
  | .lsrAbsX w => [0x5E, lo w, hi w]
  | .rolAcc => [0x2A]
  | .rolZp b => [0x26, b]
  | .rolZpX b => [0x36, b]
  | .rolAbs w => [0x2E, lo w, hi w]
  | .rolAbsX w => [0x3E, lo w, hi w]
  | .rorAcc => [0x6A]
  | .rorZp b => [0x66, b]
  | .rorZpX b => [0x76, b]
  | .rorAbs w => [0x6E, lo w, hi w]
  | .rorAbsX w => [0x7E, lo w, hi w]
  | .incZp b => [0xE6, b]
  | .incZpX b => [0xF6, b]
  | .incAbs w => [0xEE, lo w, hi w]
  | .incAbsX w => [0xFE, lo w, hi w]
  | .decZp b => [0xC6, b]
  | .decZpX b => [0xD6, b]
  | .decAbs w => [0xCE, lo w, hi w]
  | .decAbsX w => [0xDE, lo w, hi w]
  | .inx => [0xE8]
  | .iny => [0xC8]
  | .dex => [0xCA]
  | .dey => [0x88]
  | .bpl b => [0x10, b]
  | .bmi b => [0x30, b]
  | .bvc b => [0x50, b]
  | .bvs b => [0x70, b]
  | .bcc b => [0x90, b]
  | .bcs b => [0xB0, b]
  | .bne b => [0xD0, b]
  | .beq b => [0xF0, b]
  | .pha => [0x48]
  | .php => [0x08]
  | .pla => [0x68]
  | .plp => [0x28]
  | .jmpAbs w => [0x4C, lo w, hi w]
  | .jmpInd w => [0x6C, lo w, hi w]
  | .jsr w => [0x20, lo w, hi w]
  | .rts => [0x60]
  | .brk => [0x00]
  | .rti => [0x40]
  | .ldaImm b => [0xA9, b]
  | .ldaZp b => [0xA5, b]
  | .ldaZpX b => [0xB5, b]
  | .ldaAbs w => [0xAD, lo w, hi w]
  | .ldaAbsX w => [0xBD, lo w, hi w]
  | .ldaAbsY w => [0xB9, lo w, hi w]
  | .ldaIndX b => [0xA1, b]
  | .ldaIndY b => [0xB1, b]
  | .ldxImm b => [0xA2, b]
  | .ldxZp b => [0xA6, b]
  | .ldxZpY b => [0xB6, b]
  | .ldxAbs w => [0xAE, lo w, hi w]
  | .ldxAbsY w => [0xBE, lo w, hi w]
  | .ldyImm b => [0xA0, b]
  | .ldyZp b => [0xA4, b]
  | .ldyZpX b => [0xB4, b]
  | .ldyAbs w => [0xAC, lo w, hi w]
  | .ldyAbsX w => [0xBC, lo w, hi w]
  | .staZp b => [0x85, b]
  | .staZpX b => [0x95, b]
  | .staAbs w => [0x8D, lo w, hi w]
  | .staAbsX w => [0x9D, lo w, hi w]
  | .staAbsY w => [0x99, lo w, hi w]
  | .staIndX b => [0x81, b]
  | .staIndY b => [0x91, b]
  | .stxZp b => [0x86, b]
  | .stxZpY b => [0x96, b]
  | .stxAbs w => [0x8E, lo w, hi w]
  | .styZp b => [0x84, b]
  | .styZpX b => [0x94, b]
  | .styAbs w => [0x8C, lo w, hi w]
  | .tax => [0xAA]
  | .tay => [0xA8]
  | .txa => [0x8A]
  | .tya => [0x98]
  | .tsx => [0xBA]
  | .txs => [0x9A]
  | .clc => [0x18]
  | .sec => [0x38]
  | .cli => [0x58]
  | .sei => [0x78]
  | .clv => [0xB8]
  | .cld => [0xD8]
  | .sed => [0xF8]
  | .nop => [0xEA]

/-- Byte `k` of a number whose byte 0 is the first byte of an instruction. -/
def wordByte (w k : Nat) : Byte := BitVec.ofNat 8 (w / 2 ^ (8 * k))

/-- The three bytes, the longest instruction's, of an instruction given as `nbits` bits of `w`: bit 0 is the least
significant bit of the first byte, and every bit from `nbits` on is 0. -/
def tableBytes (nbits w : Nat) : List Byte :=
  let v := w % 2 ^ nbits
  [wordByte v 0, wordByte v 1, wordByte v 2]

/-- The instruction the decoder reads from a word numbered as spec/opcode_table.json numbers it. -/
def decodeTableWord (nbits w : Nat) : Option Instr :=
  match decode (tableBytes nbits w) with
  | .ok (i, _) => some i
  | .error _ => none

end Sys2Proof
end

