-- ==== Sys2Proof/Machine/Fetch.lean ====
section
/-! DEFINITION. Fetching (40_pipeline_addressing.md R100, R101) and placing an instruction where the fetch finds it. -/

namespace Sys2Proof.Machine

/-- The opcode byte at PC, PC not yet advanced (R100). -/
def fetchOpcode (s : State) : Byte := s.readByte s.pc

/-- The instruction at PC: the opcode's dispatch entry with as many operand bytes as its format has, at PC + 1 and PC + 2
mod 65536 (R101; 30_encoding.md R84). `none` for an opcode without an entry; no operand byte is then read
(60_exceptions.md R300). -/
def fetchInstr (s : State) : Option Instr :=
  match dispatch (fetchOpcode s) with
  | none => none
  | some (.f1 i) => some i
  | some (.f2 form) => some (form (s.readByte (s.pc + 1)))
  | some (.f3 form) => some (form (s.readWord (s.pc + 1)))

/-- The three bytes from PC on, as many as the longest instruction has. -/
def fetchWindow (s : State) : List Byte :=
  [s.readByte s.pc, s.readByte (s.pc + 1), s.readByte (s.pc + 2)]

/-- Store bytes at rising addresses mod 65536, whatever the region: the host's load under programming mode
(20_memory.md R56, R69). -/
def placeBytes (m : Memory) (a : Addr) : List Byte → Memory
  | [] => m
  | v :: rest => placeBytes (m.write a.toNat v) (a + 1) rest

/-- A state with the given bytes at PC and no halt, so that the very next step fetches them (log entry 4). -/
def placeAtPc (s : State) (bytes : List Byte) : State :=
  (s.withMem (placeBytes s.mem s.pc bytes)).withHalt none

end Sys2Proof.Machine
end

