-- ==== Sys2Proof/Machine/Step.lean ====
section
/-! DEFINITION. One step (40_pipeline_addressing.md R100). -/

namespace Sys2Proof.Machine

/-- `step()` (R100; order of events 60_exceptions.md R311): a halted core changes nothing; an opcode without a dispatch
entry halts the core; any other opcode is executed. The Boolean that the spec's step returns is `halted` of the next
state (log entry 5). -/
def step (s : State) : Host.Outcome State Fault Refusal :=
  if s.halted then .next s
  else
    match fetchInstr s with
    | none => .next (s.raiseIllegal s.pc (fetchOpcode s))
    | some i => exec i s

/-- The state with an instruction, numbered as spec/opcode_table.json numbers it, stored at PC, its bits from `nbits` on
zero (log entry 4). -/
def State.withFetchWord (s : State) (nbits w : Nat) : State := placeAtPc s (tableBytes nbits w)

end Sys2Proof.Machine
end

