-- ==== Sys2Proof/Machine/HostPort.lean ====
section
/-! DEFINITION. The block's interface to the host: the transactions of 00_scope.md R9 and R10, the observation outputs, the
loader's effect on memory (20_memory.md R69) and the boot order (70_reset_and_hazards.md R334). The host acts between
steps only, so each transaction is one function of the state (20_memory.md R67). -/

namespace Sys2Proof.Machine

/-- The host's transactions (R9). -/
inductive Transaction where
  | reset
  | step
  | readByte (a : Addr)
  | writeByte (a : Addr) (v : Byte)
  | readWord (a : Addr)
  | writeWord (a : Addr) (w : Addr)
  | enterProgrammingMode
  | exitProgrammingMode
deriving DecidableEq, Repr

/-- What a transaction answers: `step` its halted Boolean, a read the value read, the others nothing. -/
inductive Reply where
  | done
  | halted (h : Bool)
  | byte (v : Byte)
  | word (w : Addr)
deriving DecidableEq, Repr

/-- `reset()`: registers, P, CYC and halted at their reset values, PC from the reset vector, memory and programming mode
unchanged (70_reset_and_hazards.md R330, R331). -/
def State.hostReset (s : State) : State := State.afterReset s.mem s.progMode

/-- One transaction: the next state and the reply (R9). -/
def transact (t : Transaction) (s : State) : Host.Outcome (State × Reply) Fault Refusal :=
  match t with
  | .reset => .next (s.hostReset, .done)
  | .step =>
    match Sys2Proof.Machine.step s with
    | .next s' => .next (s', .halted s'.halted)
    | .fault r => .fault r
    | .refused r => .refused r
  | .readByte a => .next (s, .byte (s.readByte a))
  | .writeByte a v => .next (s.writeByte a v, .done)
  | .readWord a => .next (s, .word (s.readWord a))
  | .writeWord a w => .next (s.writeWord a w, .done)
  | .enterProgrammingMode => .next (s.withProgMode true, .done)
  | .exitProgrammingMode => .next (s.withProgMode false, .done)

/-- The observation outputs (R9), with the halt report (60_exceptions.md R301). -/
structure Observation where
  pc : Addr
  cyc : CycleCount
  ac : Byte
  ix : Byte
  iy : Byte
  sp : Byte
  p : Byte
  halt : Option HaltReport
deriving DecidableEq, Repr

/-- What the host observes between transactions (R9). -/
def observe (s : State) : Observation where
  pc := s.pc
  cyc := s.cyc
  ac := s.ac
  ix := s.ix
  iy := s.iy
  sp := s.sp
  p := s.p
  halt := s.halt

/-- The loader's effect: an image of length L ≤ 65536 at 65536 - L .. 0xFFFF (20_memory.md R69); `none` for a longer one,
which the external loader never places (log entry 7). -/
def placeImage (m : Memory) (image : List Byte) : Option Memory :=
  if image.length ≤ 2 ^ config.addrWidth then some (placeBytes m (0 - BitVec.ofNat 16 image.length) image) else none

/-- The state from which a program runs: power-up memory, the image placed under programming mode, programming mode left,
`reset()` (70_reset_and_hazards.md R334; as one function of the image, log entry 4). -/
def boot (image : List Byte) : Option State :=
  (placeImage Memory.erased image).map (fun m => State.afterReset m false)

end Sys2Proof.Machine
end

