-- ==== Sys2Proof/Safety.lean ====
section
/-! DEFINITION. What claims are stated in: the invariant of every reachable state, and the names of the instructions. -/

namespace Sys2Proof.Machine

/-- What holds after reset and is kept by every transaction: memory in canonical form; P.U = P.B = 1 (10_state.md R30);
while halted, PC equals haltPC and haltOp is an opcode without a dispatch entry (60_exceptions.md R300, R301). -/
structure State.Inv (s : State) : Prop where
  memCanonical : s.mem.wf
  unusedSet : s.flag .u = true
  breakSet : s.flag .b = true
  haltReport : ∀ r, s.halt = some r → r.haltPC = s.pc ∧ r.haltOp ∈ unimplementedOpcodes

/-- The 56 mnemonics (30_encoding.md R85). -/
inductive Mnemonic where
  | ADC | SBC
  | AND | ORA | EOR | CMP | CPX | CPY | BIT
  | ASL | LSR | ROL | ROR | INC | DEC | INX | INY | DEX | DEY
  | BPL | BMI | BVC | BVS | BCC | BCS | BNE | BEQ
  | PHA | PHP | PLA | PLP
  | JMP | JSR | RTS | BRK | RTI
  | LDA | LDX | LDY | STA | STX | STY
  | TAX | TAY | TXA | TYA | TSX | TXS | CLC | SEC | CLI | SEI | CLV | CLD | SED | NOP
deriving DecidableEq, Repr

/-- The mnemonic of an instruction (30_encoding.md R86). -/
def mnemonic : Instr → Mnemonic
  | .adcImm _ => .ADC
  | .adcZp _ => .ADC
  | .adcZpX _ => .ADC
  | .adcAbs _ => .ADC
  | .adcAbsX _ => .ADC
  | .adcAbsY _ => .ADC
  | .adcIndX _ => .ADC
  | .adcIndY _ => .ADC
  | .sbcImm _ => .SBC
  | .sbcZp _ => .SBC
  | .sbcZpX _ => .SBC
  | .sbcAbs _ => .SBC
  | .sbcAbsX _ => .SBC
  | .sbcAbsY _ => .SBC
  | .sbcIndX _ => .SBC
  | .sbcIndY _ => .SBC
  | .andImm _ => .AND
  | .andZp _ => .AND
  | .andZpX _ => .AND
  | .andAbs _ => .AND
  | .andAbsX _ => .AND
  | .andAbsY _ => .AND
  | .andIndX _ => .AND
  | .andIndY _ => .AND
  | .oraImm _ => .ORA
  | .oraZp _ => .ORA
  | .oraZpX _ => .ORA
  | .oraAbs _ => .ORA
  | .oraAbsX _ => .ORA
  | .oraAbsY _ => .ORA
  | .oraIndX _ => .ORA
  | .oraIndY _ => .ORA
  | .eorImm _ => .EOR
  | .eorZp _ => .EOR
  | .eorZpX _ => .EOR
  | .eorAbs _ => .EOR
  | .eorAbsX _ => .EOR
  | .eorAbsY _ => .EOR
  | .eorIndX _ => .EOR
  | .eorIndY _ => .EOR
  | .cmpImm _ => .CMP
  | .cmpZp _ => .CMP
  | .cmpZpX _ => .CMP
  | .cmpAbs _ => .CMP
  | .cmpAbsX _ => .CMP
  | .cmpAbsY _ => .CMP
  | .cmpIndX _ => .CMP
  | .cmpIndY _ => .CMP
  | .cpxImm _ => .CPX
  | .cpxZp _ => .CPX
  | .cpxAbs _ => .CPX
  | .cpyImm _ => .CPY
  | .cpyZp _ => .CPY
  | .cpyAbs _ => .CPY
  | .bitZp _ => .BIT
  | .bitAbs _ => .BIT
  | .aslAcc => .ASL
  | .aslZp _ => .ASL
  | .aslZpX _ => .ASL
  | .aslAbs _ => .ASL
  | .aslAbsX _ => .ASL
  | .lsrAcc => .LSR
  | .lsrZp _ => .LSR
  | .lsrZpX _ => .LSR
  | .lsrAbs _ => .LSR
  | .lsrAbsX _ => .LSR
  | .rolAcc => .ROL
  | .rolZp _ => .ROL
  | .rolZpX _ => .ROL
  | .rolAbs _ => .ROL
  | .rolAbsX _ => .ROL
  | .rorAcc => .ROR
  | .rorZp _ => .ROR
  | .rorZpX _ => .ROR
  | .rorAbs _ => .ROR
  | .rorAbsX _ => .ROR
  | .incZp _ => .INC
  | .incZpX _ => .INC
  | .incAbs _ => .INC
  | .incAbsX _ => .INC
  | .decZp _ => .DEC
  | .decZpX _ => .DEC
  | .decAbs _ => .DEC
  | .decAbsX _ => .DEC
  | .inx => .INX
  | .iny => .INY
  | .dex => .DEX
  | .dey => .DEY
  | .bpl _ => .BPL
  | .bmi _ => .BMI
  | .bvc _ => .BVC
  | .bvs _ => .BVS
  | .bcc _ => .BCC
  | .bcs _ => .BCS
  | .bne _ => .BNE
  | .beq _ => .BEQ
  | .pha => .PHA
  | .php => .PHP
  | .pla => .PLA
  | .plp => .PLP
  | .jmpAbs _ => .JMP
  | .jmpInd _ => .JMP
  | .jsr _ => .JSR
  | .rts => .RTS
  | .brk => .BRK
  | .rti => .RTI
  | .ldaImm _ => .LDA
  | .ldaZp _ => .LDA
  | .ldaZpX _ => .LDA
  | .ldaAbs _ => .LDA
  | .ldaAbsX _ => .LDA
  | .ldaAbsY _ => .LDA
  | .ldaIndX _ => .LDA
  | .ldaIndY _ => .LDA
  | .ldxImm _ => .LDX
  | .ldxZp _ => .LDX
  | .ldxZpY _ => .LDX
  | .ldxAbs _ => .LDX
  | .ldxAbsY _ => .LDX
  | .ldyImm _ => .LDY
  | .ldyZp _ => .LDY
  | .ldyZpX _ => .LDY
  | .ldyAbs _ => .LDY
  | .ldyAbsX _ => .LDY
  | .staZp _ => .STA
  | .staZpX _ => .STA
  | .staAbs _ => .STA
  | .staAbsX _ => .STA
  | .staAbsY _ => .STA
  | .staIndX _ => .STA
  | .staIndY _ => .STA
  | .stxZp _ => .STX
  | .stxZpY _ => .STX
  | .stxAbs _ => .STX
  | .styZp _ => .STY
  | .styZpX _ => .STY
  | .styAbs _ => .STY
  | .tax => .TAX
  | .tay => .TAY
  | .txa => .TXA
  | .tya => .TYA
  | .tsx => .TSX
  | .txs => .TXS
  | .clc => .CLC
  | .sec => .SEC
  | .cli => .CLI
  | .sei => .SEI
  | .clv => .CLV
  | .cld => .CLD
  | .sed => .SED
  | .nop => .NOP

end Sys2Proof.Machine
end

