-- ==== Sys2Proof/Machine/Assembler.lean ====
section
/-! DEFINITION. The assembler syntax (30_encoding.md R90, decision D27): the operand forms, the choice of the instruction
form, the offset of a branch, and the operands' text. It stands outside the machine: nothing it defines is used by a step. -/

namespace Sys2Proof.Machine

/-- An operand as the assembler writes it. -/
inductive AsmOperand where
  /-- No operand: Implicit, or Accumulator written bare. -/
  | bare
  /-- `A`. -/
  | accumulator
  /-- `#$nn`. -/
  | immediate (b : Byte)
  /-- `$nn` or `$nnnn`. -/
  | address (w : Addr)
  /-- `$nn,X` or `$nnnn,X`. -/
  | addressX (w : Addr)
  /-- `$nn,Y` or `$nnnn,Y`. -/
  | addressY (w : Addr)
  /-- `($nnnn)`. -/
  | indirect (w : Addr)
  /-- `($nn,X)`. -/
  | indexedIndirect (b : Byte)
  /-- `($nn),Y`. -/
  | indirectIndexed (b : Byte)
  /-- A label, by the address it stands for. -/
  | label (target : Addr)
deriving DecidableEq, Repr

/-- The forms a mnemonic has, by addressing mode (R86). -/
structure AsmForms where
  implicit : Option Instr := none
  accumulator : Option Instr := none
  immediate : Option (Byte → Instr) := none
  zeroPage : Option (Byte → Instr) := none
  zeroPageX : Option (Byte → Instr) := none
  zeroPageY : Option (Byte → Instr) := none
  absolute : Option (Addr → Instr) := none
  absoluteX : Option (Addr → Instr) := none
  absoluteY : Option (Addr → Instr) := none
  indirect : Option (Addr → Instr) := none
  indexedIndirect : Option (Byte → Instr) := none
  indirectIndexed : Option (Byte → Instr) := none
  relative : Option (Byte → Instr) := none

/-- The forms of each mnemonic. -/
def asmForms : Mnemonic → AsmForms
  | .ADC =>
    { immediate := some .adcImm, zeroPage := some .adcZp, zeroPageX := some .adcZpX, absolute := some .adcAbs,
      absoluteX := some .adcAbsX, absoluteY := some .adcAbsY, indexedIndirect := some .adcIndX, indirectIndexed := some .adcIndY }
  | .SBC =>
    { immediate := some .sbcImm, zeroPage := some .sbcZp, zeroPageX := some .sbcZpX, absolute := some .sbcAbs,
      absoluteX := some .sbcAbsX, absoluteY := some .sbcAbsY, indexedIndirect := some .sbcIndX, indirectIndexed := some .sbcIndY }
  | .AND =>
    { immediate := some .andImm, zeroPage := some .andZp, zeroPageX := some .andZpX, absolute := some .andAbs,
      absoluteX := some .andAbsX, absoluteY := some .andAbsY, indexedIndirect := some .andIndX, indirectIndexed := some .andIndY }
  | .ORA =>
    { immediate := some .oraImm, zeroPage := some .oraZp, zeroPageX := some .oraZpX, absolute := some .oraAbs,
      absoluteX := some .oraAbsX, absoluteY := some .oraAbsY, indexedIndirect := some .oraIndX, indirectIndexed := some .oraIndY }
  | .EOR =>
    { immediate := some .eorImm, zeroPage := some .eorZp, zeroPageX := some .eorZpX, absolute := some .eorAbs,
      absoluteX := some .eorAbsX, absoluteY := some .eorAbsY, indexedIndirect := some .eorIndX, indirectIndexed := some .eorIndY }
  | .CMP =>
    { immediate := some .cmpImm, zeroPage := some .cmpZp, zeroPageX := some .cmpZpX, absolute := some .cmpAbs,
      absoluteX := some .cmpAbsX, absoluteY := some .cmpAbsY, indexedIndirect := some .cmpIndX, indirectIndexed := some .cmpIndY }
  | .CPX => { immediate := some .cpxImm, zeroPage := some .cpxZp, absolute := some .cpxAbs }
  | .CPY => { immediate := some .cpyImm, zeroPage := some .cpyZp, absolute := some .cpyAbs }
  | .BIT => { zeroPage := some .bitZp, absolute := some .bitAbs }
  | .ASL =>
    { accumulator := some .aslAcc, zeroPage := some .aslZp,
      zeroPageX := some .aslZpX, absolute := some .aslAbs, absoluteX := some .aslAbsX }
  | .LSR =>
    { accumulator := some .lsrAcc, zeroPage := some .lsrZp,
      zeroPageX := some .lsrZpX, absolute := some .lsrAbs, absoluteX := some .lsrAbsX }
  | .ROL =>
    { accumulator := some .rolAcc, zeroPage := some .rolZp,
      zeroPageX := some .rolZpX, absolute := some .rolAbs, absoluteX := some .rolAbsX }
  | .ROR =>
    { accumulator := some .rorAcc, zeroPage := some .rorZp,
      zeroPageX := some .rorZpX, absolute := some .rorAbs, absoluteX := some .rorAbsX }
  | .INC =>
    { zeroPage := some .incZp, zeroPageX := some .incZpX,
      absolute := some .incAbs, absoluteX := some .incAbsX }
  | .DEC =>
    { zeroPage := some .decZp, zeroPageX := some .decZpX,
      absolute := some .decAbs, absoluteX := some .decAbsX }
  | .INX => { implicit := some .inx }
  | .INY => { implicit := some .iny }
  | .DEX => { implicit := some .dex }
  | .DEY => { implicit := some .dey }
  | .BPL => { relative := some .bpl }
  | .BMI => { relative := some .bmi }
  | .BVC => { relative := some .bvc }
  | .BVS => { relative := some .bvs }
  | .BCC => { relative := some .bcc }
  | .BCS => { relative := some .bcs }
  | .BNE => { relative := some .bne }
  | .BEQ => { relative := some .beq }
  | .PHA => { implicit := some .pha }
  | .PHP => { implicit := some .php }
  | .PLA => { implicit := some .pla }
  | .PLP => { implicit := some .plp }
  | .JMP => { absolute := some .jmpAbs, indirect := some .jmpInd }
  | .JSR => { absolute := some .jsr }
  | .RTS => { implicit := some .rts }
  | .BRK => { implicit := some .brk }
  | .RTI => { implicit := some .rti }
  | .LDA =>
    { immediate := some .ldaImm, zeroPage := some .ldaZp, zeroPageX := some .ldaZpX, absolute := some .ldaAbs,
      absoluteX := some .ldaAbsX, absoluteY := some .ldaAbsY, indexedIndirect := some .ldaIndX, indirectIndexed := some .ldaIndY }
  | .LDX =>
    { immediate := some .ldxImm, zeroPage := some .ldxZp,
      zeroPageY := some .ldxZpY, absolute := some .ldxAbs, absoluteY := some .ldxAbsY }
  | .LDY =>
    { immediate := some .ldyImm, zeroPage := some .ldyZp,
      zeroPageX := some .ldyZpX, absolute := some .ldyAbs, absoluteX := some .ldyAbsX }
  | .STA =>
    { zeroPage := some .staZp, zeroPageX := some .staZpX, absolute := some .staAbs,
      absoluteX := some .staAbsX, absoluteY := some .staAbsY, indexedIndirect := some .staIndX, indirectIndexed := some .staIndY }
  | .STX => { zeroPage := some .stxZp, zeroPageY := some .stxZpY, absolute := some .stxAbs }
  | .STY => { zeroPage := some .styZp, zeroPageX := some .styZpX, absolute := some .styAbs }
  | .TAX => { implicit := some .tax }
  | .TAY => { implicit := some .tay }
  | .TXA => { implicit := some .txa }
  | .TYA => { implicit := some .tya }
  | .TSX => { implicit := some .tsx }
  | .TXS => { implicit := some .txs }
  | .CLC => { implicit := some .clc }
  | .SEC => { implicit := some .sec }
  | .CLI => { implicit := some .cli }
  | .SEI => { implicit := some .sei }
  | .CLV => { implicit := some .clv }
  | .CLD => { implicit := some .cld }
  | .SED => { implicit := some .sed }
  | .NOP => { implicit := some .nop }

/-- The Zero Page form when the address fits in 8 bits and the form exists, otherwise the Absolute form (R90). -/
def pickForm (zeroPage : Option (Byte → Instr)) (absolute : Option (Addr → Instr)) (w : Addr) : Option Instr :=
  match zeroPage with
  | some form => if hi w = 0 then some (form (lo w)) else absolute.map (fun form => form w)
  | none => absolute.map (fun form => form w)

/-- The offset byte of a branch at `pc`: target − (pc + 2), where it fits in a signed byte (R90; log entry 13). -/
def branchOffset (pc target : Addr) : Option Byte :=
  let d := target - (pc + 2)
  if sext16 (lo d) = d then some (lo d) else none

/-- The instruction the assembler writes at `pc` for a mnemonic and an operand (R90); `none` where the mnemonic has no form
for it. -/
def assemble (pc : Addr) (m : Mnemonic) (o : AsmOperand) : Option Instr :=
  let f := asmForms m
  match o with
  | .bare =>
    match f.implicit with
    | some i => some i
    | none => f.accumulator
  | .accumulator => f.accumulator
  | .immediate b => f.immediate.map (fun form => form b)
  | .address w => pickForm f.zeroPage f.absolute w
  | .addressX w => pickForm f.zeroPageX f.absoluteX w
  | .addressY w => pickForm f.zeroPageY f.absoluteY w
  | .indirect w => f.indirect.map (fun form => form w)
  | .indexedIndirect b => f.indexedIndirect.map (fun form => form b)
  | .indirectIndexed b => f.indirectIndexed.map (fun form => form b)
  | .label target =>
    match f.relative, branchOffset pc target with
    | some form, some off => some (form off)
    | some _, none => none
    | none, _ => pickForm f.zeroPage f.absolute target

/-- One hexadecimal digit. -/
def hexDigit (n : Nat) : Char :=
  ['0', '1', '2', '3', '4', '5', '6', '7', '8', '9', 'A', 'B', 'C', 'D', 'E', 'F'].getD n '0'

/-- `$nn`. -/
def hexByte (b : Byte) : List Char := ['$', hexDigit (b.toNat / 16), hexDigit (b.toNat % 16)]

/-- `$nnnn`. -/
def hexWord (w : Addr) : List Char :=
  ['$', hexDigit (w.toNat / 4096), hexDigit (w.toNat / 256 % 16), hexDigit (w.toNat / 16 % 16), hexDigit (w.toNat % 16)]

/-- `$nn` for an address that fits in 8 bits, `$nnnn` for another. -/
def hexAddress (w : Addr) : List Char := if hi w = 0 then hexByte (lo w) else hexWord w

/-- An operand's text in the syntax of R90. -/
def AsmOperand.text : AsmOperand → List Char
  | .bare => []
  | .accumulator => ['A']
  | .immediate b => '#' :: hexByte b
  | .address w => hexAddress w
  | .addressX w => hexAddress w ++ [',', 'X']
  | .addressY w => hexAddress w ++ [',', 'Y']
  | .indirect w => '(' :: hexWord w ++ [')']
  | .indexedIndirect b => '(' :: hexByte b ++ [',', 'X', ')']
  | .indirectIndexed b => '(' :: hexByte b ++ [')', ',', 'Y']
  | .label target => hexWord target

end Sys2Proof.Machine
end

