-- ==== Sys2Proof/Certificates/Slice0/Obligations.lean ====
section
/-! DEFINITION. The statements for the provers, `def Obligations.<Name> : Prop`, and the terms they use. The tables of
instruction forms are written from the rules' own lists of encodings and from the cycle table of
70_reset_and_hazards.md R351, apart from the model's tables. -/

namespace Sys2Proof.Claims

open Sys2Proof.Machine

/-- One form of an instruction as the spec lists it: the term, its opcode byte, its length, its operand with the addressing
mode, its base cost and whether a page crossing adds one cycle. -/
structure Form (α : Type) where
  instr : Instr
  opcode : Byte
  length : Nat
  operand : α
  base : Nat
  crossAdds : Bool
deriving DecidableEq, Repr

/-- `s` with PC past the form's bytes and its cost charged, `crossed` saying whether a page was crossed. -/
def Form.after {α : Type} (f : Form α) (crossed : Bool) (s : State) : State :=
  { s with
    pc := s.pc + BitVec.ofNat 16 f.length
    cyc := s.cyc + BitVec.ofNat 64 (f.base + (if f.crossAdds && crossed then 1 else 0)) }

/-- The form's encoding starts with the opcode the spec gives it. -/
def Form.hasOpcode {α : Type} (f : Form α) : Prop := (encode f.instr).head? = some f.opcode

/-- A value after a list of assignments: the listed value for a listed key, the old value for any other. -/
def assigned {κ β : Type} [DecidableEq κ] (key : κ) (old : β) : List (κ × β) → β
  | [] => old
  | (k, v) :: rest => if key = k then v else assigned key old rest

/-- The flag byte `p'` is `p` with exactly the listed flags at the listed values. -/
def FlagsBecome (p p' : Byte) (changes : List (Flag × Bool)) : Prop :=
  ∀ f, getFlag p' f = assigned f (getFlag p f) changes

/-- Every byte of memory reads in `m'` as in `s`, but for the listed cells, which hold the listed bytes. -/
def MemoryBecomes (s : State) (m' : Memory) (writes : List (Addr × Byte)) : Prop :=
  ∀ a : Addr, m'.read a.toNat = assigned a (s.readByte a) writes

/-- What a one-byte write of `v` to `ea` stores: the cell, or nothing where the write is discarded (20_memory.md R53). -/
def admitted (s : State) (ea : Addr) (v : Byte) : List (Addr × Byte) :=
  if ea ≤ 0x7FFF ∨ s.progMode = true then [(ea, v)] else []

/-- The stack cell an SP value names (20_memory.md R59). -/
def stackCell (sp : Byte) : Addr := 0x0100 + zext16 sp

/-- Both nibbles are decimal digits. -/
def ValidBcd (x : Byte) : Prop := x.toNat % 16 ≤ 9 ∧ x.toNat / 16 ≤ 9

/-- The number two packed decimal digits stand for. -/
def bcd (x : Byte) : Nat := x.toNat / 16 * 10 + x.toNat % 16

/-- The instructions that may write a flag: the second column of the table of 10_state.md R33. -/
def flagWriters : Flag → List Mnemonic
  | .n => [.ADC, .SBC, .AND, .ORA, .EOR, .CMP, .CPX, .CPY, .BIT, .ASL, .LSR, .ROL, .ROR, .INC, .DEC, .INX, .INY, .DEX,
      .DEY, .LDA, .LDX, .LDY, .TAX, .TAY, .TXA, .TYA, .TSX, .PLA, .PLP, .RTI]
  | .v => [.ADC, .SBC, .BIT, .CLV, .PLP, .RTI]
  | .u => [.PLP, .RTI]
  | .b => [.PLP, .RTI]
  | .d => [.SED, .CLD, .PLP, .RTI]
  | .i => [.SEI, .CLI, .BRK, .PLP, .RTI]
  | .z => [.ADC, .SBC, .AND, .ORA, .EOR, .CMP, .CPX, .CPY, .BIT, .ASL, .LSR, .ROL, .ROR, .INC, .DEC, .INX, .INY, .DEX,
      .DEY, .LDA, .LDX, .LDY, .TAX, .TAY, .TXA, .TYA, .TSX, .PLA, .PLP, .RTI]
  | .c => [.ADC, .SBC, .CMP, .CPX, .CPY, .ASL, .LSR, .ROL, .ROR, .CLC, .SEC, .PLP, .RTI]

/-- The instructions that may read a flag: the third column of the table of 10_state.md R33. -/
def flagReaders : Flag → List Mnemonic
  | .n => [.BPL, .BMI, .PHP, .BRK]
  | .v => [.BVC, .BVS, .PHP, .BRK]
  | .u => [.PHP, .BRK]
  | .b => [.PHP, .BRK]
  | .d => [.ADC, .SBC, .PHP, .BRK]
  | .i => [.PHP, .BRK]
  | .z => [.BEQ, .BNE, .PHP, .BRK]
  | .c => [.ADC, .SBC, .ROL, .ROR, .BCC, .BCS, .PHP, .BRK]

/-- `n` pushes or more, one for each byte of a list. -/
def pushAll (s : State) : List Byte → State
  | [] => s
  | v :: vs => pushAll (s.push v) vs

/-- The assembler's operand for a memory operand of an addressing mode (30_encoding.md R90, syntax column). -/
def memAsm : MemMode → AsmOperand
  | .zeroPage b => .address (zext16 b)
  | .zeroPageX b => .addressX (zext16 b)
  | .zeroPageY b => .addressY (zext16 b)
  | .absolute w => .address w
  | .absoluteX w => .addressX w
  | .absoluteY w => .addressY w
  | .indexedIndirect b => .indexedIndirect b
  | .indirectIndexed b => .indirectIndexed b

/-- The assembler's operand for the operand of a reading instruction. -/
def readAsm : ReadOperand → AsmOperand
  | .immediate b => .immediate b
  | .memory m => memAsm m

/-- The assembler's operand for the target of a read-modify-write instruction. -/
def rmwAsm : RmwTarget → AsmOperand
  | .accumulator => .accumulator
  | .memory m => memAsm m

/-! ### The instruction forms -/

/-- ADC (R130). -/
def adcForms (b : Byte) (w : Addr) : List (Form ReadOperand) :=
  [⟨.adcImm b, 0x69, 2, .immediate b, 2, false⟩,
   ⟨.adcZp b, 0x65, 2, .memory (.zeroPage b), 3, false⟩,
   ⟨.adcZpX b, 0x75, 2, .memory (.zeroPageX b), 4, false⟩,
   ⟨.adcAbs w, 0x6D, 3, .memory (.absolute w), 4, false⟩,
   ⟨.adcAbsX w, 0x7D, 3, .memory (.absoluteX w), 4, true⟩,
   ⟨.adcAbsY w, 0x79, 3, .memory (.absoluteY w), 4, true⟩,
   ⟨.adcIndX b, 0x61, 2, .memory (.indexedIndirect b), 6, false⟩,
   ⟨.adcIndY b, 0x71, 2, .memory (.indirectIndexed b), 5, true⟩]

/-- SBC (R131). -/
def sbcForms (b : Byte) (w : Addr) : List (Form ReadOperand) :=
  [⟨.sbcImm b, 0xE9, 2, .immediate b, 2, false⟩,
   ⟨.sbcZp b, 0xE5, 2, .memory (.zeroPage b), 3, false⟩,
   ⟨.sbcZpX b, 0xF5, 2, .memory (.zeroPageX b), 4, false⟩,
   ⟨.sbcAbs w, 0xED, 3, .memory (.absolute w), 4, false⟩,
   ⟨.sbcAbsX w, 0xFD, 3, .memory (.absoluteX w), 4, true⟩,
   ⟨.sbcAbsY w, 0xF9, 3, .memory (.absoluteY w), 4, true⟩,
   ⟨.sbcIndX b, 0xE1, 2, .memory (.indexedIndirect b), 6, false⟩,
   ⟨.sbcIndY b, 0xF1, 2, .memory (.indirectIndexed b), 5, true⟩]

/-- AND (R140). -/
def andForms (b : Byte) (w : Addr) : List (Form ReadOperand) :=
  [⟨.andImm b, 0x29, 2, .immediate b, 2, false⟩,
   ⟨.andZp b, 0x25, 2, .memory (.zeroPage b), 3, false⟩,
   ⟨.andZpX b, 0x35, 2, .memory (.zeroPageX b), 4, false⟩,
   ⟨.andAbs w, 0x2D, 3, .memory (.absolute w), 4, false⟩,
   ⟨.andAbsX w, 0x3D, 3, .memory (.absoluteX w), 4, true⟩,
   ⟨.andAbsY w, 0x39, 3, .memory (.absoluteY w), 4, true⟩,
   ⟨.andIndX b, 0x21, 2, .memory (.indexedIndirect b), 6, false⟩,
   ⟨.andIndY b, 0x31, 2, .memory (.indirectIndexed b), 5, true⟩]

/-- ORA (R141). -/
def oraForms (b : Byte) (w : Addr) : List (Form ReadOperand) :=
  [⟨.oraImm b, 0x09, 2, .immediate b, 2, false⟩,
   ⟨.oraZp b, 0x05, 2, .memory (.zeroPage b), 3, false⟩,
   ⟨.oraZpX b, 0x15, 2, .memory (.zeroPageX b), 4, false⟩,
   ⟨.oraAbs w, 0x0D, 3, .memory (.absolute w), 4, false⟩,
   ⟨.oraAbsX w, 0x1D, 3, .memory (.absoluteX w), 4, true⟩,
   ⟨.oraAbsY w, 0x19, 3, .memory (.absoluteY w), 4, true⟩,
   ⟨.oraIndX b, 0x01, 2, .memory (.indexedIndirect b), 6, false⟩,
   ⟨.oraIndY b, 0x11, 2, .memory (.indirectIndexed b), 5, true⟩]

/-- EOR (R142). -/
def eorForms (b : Byte) (w : Addr) : List (Form ReadOperand) :=
  [⟨.eorImm b, 0x49, 2, .immediate b, 2, false⟩,
   ⟨.eorZp b, 0x45, 2, .memory (.zeroPage b), 3, false⟩,
   ⟨.eorZpX b, 0x55, 2, .memory (.zeroPageX b), 4, false⟩,
   ⟨.eorAbs w, 0x4D, 3, .memory (.absolute w), 4, false⟩,
   ⟨.eorAbsX w, 0x5D, 3, .memory (.absoluteX w), 4, true⟩,
   ⟨.eorAbsY w, 0x59, 3, .memory (.absoluteY w), 4, true⟩,
   ⟨.eorIndX b, 0x41, 2, .memory (.indexedIndirect b), 6, false⟩,
   ⟨.eorIndY b, 0x51, 2, .memory (.indirectIndexed b), 5, true⟩]

/-- CMP (R144). -/
def cmpForms (b : Byte) (w : Addr) : List (Form ReadOperand) :=
  [⟨.cmpImm b, 0xC9, 2, .immediate b, 2, false⟩,
   ⟨.cmpZp b, 0xC5, 2, .memory (.zeroPage b), 3, false⟩,
   ⟨.cmpZpX b, 0xD5, 2, .memory (.zeroPageX b), 4, false⟩,
   ⟨.cmpAbs w, 0xCD, 3, .memory (.absolute w), 4, false⟩,
   ⟨.cmpAbsX w, 0xDD, 3, .memory (.absoluteX w), 4, true⟩,
   ⟨.cmpAbsY w, 0xD9, 3, .memory (.absoluteY w), 4, true⟩,
   ⟨.cmpIndX b, 0xC1, 2, .memory (.indexedIndirect b), 6, false⟩,
   ⟨.cmpIndY b, 0xD1, 2, .memory (.indirectIndexed b), 5, true⟩]

/-- CPX (R145). -/
def cpxForms (b : Byte) (w : Addr) : List (Form ReadOperand) :=
  [⟨.cpxImm b, 0xE0, 2, .immediate b, 2, false⟩,
   ⟨.cpxZp b, 0xE4, 2, .memory (.zeroPage b), 3, false⟩,
   ⟨.cpxAbs w, 0xEC, 3, .memory (.absolute w), 4, false⟩]

/-- CPY (R146). -/
def cpyForms (b : Byte) (w : Addr) : List (Form ReadOperand) :=
  [⟨.cpyImm b, 0xC0, 2, .immediate b, 2, false⟩,
   ⟨.cpyZp b, 0xC4, 2, .memory (.zeroPage b), 3, false⟩,
   ⟨.cpyAbs w, 0xCC, 3, .memory (.absolute w), 4, false⟩]

/-- BIT (R147). -/
def bitForms (b : Byte) (w : Addr) : List (Form ReadOperand) :=
  [⟨.bitZp b, 0x24, 2, .memory (.zeroPage b), 3, false⟩,
   ⟨.bitAbs w, 0x2C, 3, .memory (.absolute w), 4, false⟩]

/-- ASL (R161). -/
def aslForms (b : Byte) (w : Addr) : List (Form RmwTarget) :=
  [⟨.aslAcc, 0x0A, 1, .accumulator, 2, false⟩,
   ⟨.aslZp b, 0x06, 2, .memory (.zeroPage b), 5, false⟩,
   ⟨.aslZpX b, 0x16, 2, .memory (.zeroPageX b), 6, false⟩,
   ⟨.aslAbs w, 0x0E, 3, .memory (.absolute w), 6, false⟩,
   ⟨.aslAbsX w, 0x1E, 3, .memory (.absoluteX w), 7, false⟩]

/-- LSR (R162). -/
def lsrForms (b : Byte) (w : Addr) : List (Form RmwTarget) :=
  [⟨.lsrAcc, 0x4A, 1, .accumulator, 2, false⟩,
   ⟨.lsrZp b, 0x46, 2, .memory (.zeroPage b), 5, false⟩,
   ⟨.lsrZpX b, 0x56, 2, .memory (.zeroPageX b), 6, false⟩,
   ⟨.lsrAbs w, 0x4E, 3, .memory (.absolute w), 6, false⟩,
   ⟨.lsrAbsX w, 0x5E, 3, .memory (.absoluteX w), 7, false⟩]

/-- ROL (R163). -/
def rolForms (b : Byte) (w : Addr) : List (Form RmwTarget) :=
  [⟨.rolAcc, 0x2A, 1, .accumulator, 2, false⟩,
   ⟨.rolZp b, 0x26, 2, .memory (.zeroPage b), 5, false⟩,
   ⟨.rolZpX b, 0x36, 2, .memory (.zeroPageX b), 6, false⟩,
   ⟨.rolAbs w, 0x2E, 3, .memory (.absolute w), 6, false⟩,
   ⟨.rolAbsX w, 0x3E, 3, .memory (.absoluteX w), 7, false⟩]

/-- ROR (R164). -/
def rorForms (b : Byte) (w : Addr) : List (Form RmwTarget) :=
  [⟨.rorAcc, 0x6A, 1, .accumulator, 2, false⟩,
   ⟨.rorZp b, 0x66, 2, .memory (.zeroPage b), 5, false⟩,
   ⟨.rorZpX b, 0x76, 2, .memory (.zeroPageX b), 6, false⟩,
   ⟨.rorAbs w, 0x6E, 3, .memory (.absolute w), 6, false⟩,
   ⟨.rorAbsX w, 0x7E, 3, .memory (.absoluteX w), 7, false⟩]

/-- INC (R165). -/
def incForms (b : Byte) (w : Addr) : List (Form RmwTarget) :=
  [⟨.incZp b, 0xE6, 2, .memory (.zeroPage b), 5, false⟩,
   ⟨.incZpX b, 0xF6, 2, .memory (.zeroPageX b), 6, false⟩,
   ⟨.incAbs w, 0xEE, 3, .memory (.absolute w), 6, false⟩,
   ⟨.incAbsX w, 0xFE, 3, .memory (.absoluteX w), 7, false⟩]

/-- DEC (R166). -/
def decForms (b : Byte) (w : Addr) : List (Form RmwTarget) :=
  [⟨.decZp b, 0xC6, 2, .memory (.zeroPage b), 5, false⟩,
   ⟨.decZpX b, 0xD6, 2, .memory (.zeroPageX b), 6, false⟩,
   ⟨.decAbs w, 0xCE, 3, .memory (.absolute w), 6, false⟩,
   ⟨.decAbsX w, 0xDE, 3, .memory (.absoluteX w), 7, false⟩]

/-- LDA (R230). -/
def ldaForms (b : Byte) (w : Addr) : List (Form ReadOperand) :=
  [⟨.ldaImm b, 0xA9, 2, .immediate b, 2, false⟩,
   ⟨.ldaZp b, 0xA5, 2, .memory (.zeroPage b), 3, false⟩,
   ⟨.ldaZpX b, 0xB5, 2, .memory (.zeroPageX b), 4, false⟩,
   ⟨.ldaAbs w, 0xAD, 3, .memory (.absolute w), 4, false⟩,
   ⟨.ldaAbsX w, 0xBD, 3, .memory (.absoluteX w), 4, true⟩,
   ⟨.ldaAbsY w, 0xB9, 3, .memory (.absoluteY w), 4, true⟩,
   ⟨.ldaIndX b, 0xA1, 2, .memory (.indexedIndirect b), 6, false⟩,
   ⟨.ldaIndY b, 0xB1, 2, .memory (.indirectIndexed b), 5, true⟩]

/-- LDX (R231). -/
def ldxForms (b : Byte) (w : Addr) : List (Form ReadOperand) :=
  [⟨.ldxImm b, 0xA2, 2, .immediate b, 2, false⟩,
   ⟨.ldxZp b, 0xA6, 2, .memory (.zeroPage b), 3, false⟩,
   ⟨.ldxZpY b, 0xB6, 2, .memory (.zeroPageY b), 4, false⟩,
   ⟨.ldxAbs w, 0xAE, 3, .memory (.absolute w), 4, false⟩,
   ⟨.ldxAbsY w, 0xBE, 3, .memory (.absoluteY w), 4, true⟩]

/-- LDY (R232). -/
def ldyForms (b : Byte) (w : Addr) : List (Form ReadOperand) :=
  [⟨.ldyImm b, 0xA0, 2, .immediate b, 2, false⟩,
   ⟨.ldyZp b, 0xA4, 2, .memory (.zeroPage b), 3, false⟩,
   ⟨.ldyZpX b, 0xB4, 2, .memory (.zeroPageX b), 4, false⟩,
   ⟨.ldyAbs w, 0xAC, 3, .memory (.absolute w), 4, false⟩,
   ⟨.ldyAbsX w, 0xBC, 3, .memory (.absoluteX w), 4, true⟩]

/-- STA (R233). -/
def staForms (b : Byte) (w : Addr) : List (Form MemMode) :=
  [⟨.staZp b, 0x85, 2, .zeroPage b, 3, false⟩,
   ⟨.staZpX b, 0x95, 2, .zeroPageX b, 4, false⟩,
   ⟨.staAbs w, 0x8D, 3, .absolute w, 4, false⟩,
   ⟨.staAbsX w, 0x9D, 3, .absoluteX w, 5, false⟩,
   ⟨.staAbsY w, 0x99, 3, .absoluteY w, 5, false⟩,
   ⟨.staIndX b, 0x81, 2, .indexedIndirect b, 6, false⟩,
   ⟨.staIndY b, 0x91, 2, .indirectIndexed b, 6, false⟩]

/-- STX (R234). -/
def stxForms (b : Byte) (w : Addr) : List (Form MemMode) :=
  [⟨.stxZp b, 0x86, 2, .zeroPage b, 3, false⟩,
   ⟨.stxZpY b, 0x96, 2, .zeroPageY b, 4, false⟩,
   ⟨.stxAbs w, 0x8E, 3, .absolute w, 4, false⟩]

/-- STY (R235). -/
def styForms (b : Byte) (w : Addr) : List (Form MemMode) :=
  [⟨.styZp b, 0x84, 2, .zeroPage b, 3, false⟩,
   ⟨.styZpX b, 0x94, 2, .zeroPageX b, 4, false⟩,
   ⟨.styAbs w, 0x8C, 3, .absolute w, 4, false⟩]

/-- The eight branches: instruction, opcode, the flag tested and the value it branches on (44_branches.md R181 to R188). -/
def branchForms (b : Byte) : List (Instr × Byte × Flag × Bool) :=
  [(.bpl b, 0x10, .n, false),
   (.bmi b, 0x30, .n, true),
   (.bvc b, 0x50, .v, false),
   (.bvs b, 0x70, .v, true),
   (.bcc b, 0x90, .c, false),
   (.bcs b, 0xB0, .c, true),
   (.bne b, 0xD0, .z, false),
   (.beq b, 0xF0, .z, true)]

/-- The seven flag instructions: instruction, opcode, the flag written and its new value
(47_load_store_transfer_flags.md R242 to R248). -/
def flagForms : List (Instr × Byte × Flag × Bool) :=
  [(.clc, 0x18, .c, false),
   (.sec, 0x38, .c, true),
   (.cli, 0x58, .i, false),
   (.sei, 0x78, .i, true),
   (.clv, 0xB8, .v, false),
   (.cld, 0xD8, .d, false),
   (.sed, 0xF8, .d, true)]

/-- Every form of every instruction that reads its operand. -/
def readForms (b : Byte) (w : Addr) : List (Form ReadOperand) :=
  adcForms b w ++ sbcForms b w ++ andForms b w ++ oraForms b w ++ eorForms b w ++ cmpForms b w ++ cpxForms b w ++
    cpyForms b w ++ bitForms b w ++ ldaForms b w ++ ldxForms b w ++ ldyForms b w

/-- Every form of every instruction that stores. -/
def writeForms (b : Byte) (w : Addr) : List (Form MemMode) :=
  staForms b w ++ stxForms b w ++ styForms b w

/-- Every form of every instruction that reads and writes back its target. -/
def rmwForms (b : Byte) (w : Addr) : List (Form RmwTarget) :=
  aslForms b w ++ lsrForms b w ++ rolForms b w ++ rorForms b w ++ incForms b w ++ decForms b w

/-- The instructions whose operand is no data operand of an addressing mode, the branches apart, with their base cost
(70_reset_and_hazards.md R351). -/
def fixedCostForms (w : Addr) : List (Instr × Nat) :=
  [(.inx, 2), (.iny, 2), (.dex, 2), (.dey, 2), (.pha, 3), (.php, 3), (.pla, 4), (.plp, 4), (.jmpAbs w, 3),
   (.jmpInd w, 5), (.jsr w, 6), (.rts, 6), (.brk, 7), (.rti, 6), (.tax, 2), (.tay, 2), (.txa, 2), (.tya, 2),
   (.tsx, 2), (.txs, 2), (.clc, 2), (.sec, 2), (.cli, 2), (.sei, 2), (.clv, 2), (.cld, 2), (.sed, 2), (.nop, 2)]

end Sys2Proof.Claims

open Sys2Proof Sys2Proof.Machine Sys2Proof.Claims

/-! ### Encoding -/

/-- R80 to R86: encoding and decoding are inverse, in both directions. Every instruction, with every operand, is read back
from its bytes with what follows them left over; and every byte list that is read as an instruction begins with exactly that
instruction's bytes, so each byte string has one meaning.
The opcode assignment is decision D6. -/
def Obligations.DecodeEncodeAgree : Prop :=
  (∀ (i : Instr) (rest : List Byte), decode (encode i ++ rest) = .ok (i, rest)) ∧
  (∀ (bytes rest : List Byte) (i : Instr), decode bytes = .ok (i, rest) → bytes = encode i ++ rest)

/-- 30_encoding.md R84: the opcode byte alone fixes the length. An opcode of length n in the spec's table is read with
exactly its n - 1 operand bytes whenever the list has them; and whatever is read from a list, long enough or not, has the
length of the list's first byte, and what follows is left over.
The opcode assignment is decision D6. -/
def Obligations.LengthFixedByOpcode : Prop :=
  (∀ (op : Byte) (operands rest : List Byte) (n : Nat), opcodeLength op = some n → operands.length + 1 = n →
    (n = 1 ∨ n = 2 ∨ n = 3) ∧ ∃ i, decode (op :: (operands ++ rest)) = .ok (i, rest) ∧ (encode i).length = n) ∧
  (∀ (op : Byte) (bytes rest : List Byte) (i : Instr), decode (op :: bytes) = .ok (i, rest) →
    opcodeLength op = some (encode i).length ∧ bytes.length + 1 = (encode i).length + rest.length)

/-- 30_encoding.md R88: the 105 listed opcodes, and no others, have no dispatch entry; they are rejected by name whatever
follows them, and the machine's fetch finds no instruction exactly on them.
Which opcodes have no entry is decision D6. -/
def Obligations.ListedOpcodesUnimplemented : Prop :=
  unimplementedOpcodes.length = 105 ∧
  (∀ (op : Byte) (rest : List Byte), decode (op :: rest) = .error (.unimplemented op) ↔ op ∈ unimplementedOpcodes) ∧
  (∀ s : State, fetchInstr s = none ↔ s.readByte s.pc ∈ unimplementedOpcodes)

/-- Words written out from the opcode map (30_encoding.md R86) and the assembler examples (R90), one or more per family,
decode to the instruction they stand for.
The opcode assignment is decision D6. -/
def Obligations.SampleWordsDecode : Prop :=
  decode [0x69, 0x01] = .ok (.adcImm 0x01, []) ∧
  decode [0xF1, 0x40] = .ok (.sbcIndY 0x40, []) ∧
  decode [0x2C, 0x00, 0x02] = .ok (.bitAbs 0x0200, []) ∧
  decode [0x7E, 0xFF, 0x03] = .ok (.rorAbsX 0x03FF, []) ∧
  decode [0xD0, 0xFE] = .ok (.bne 0xFE, []) ∧
  decode [0x28, 0xEA] = .ok (.plp, [0xEA]) ∧
  decode [0x6C, 0x00, 0x03] = .ok (.jmpInd 0x0300, []) ∧
  decode [0xB6, 0x10] = .ok (.ldxZpY 0x10, []) ∧
  decode [0x8D, 0x00, 0x02] = .ok (.staAbs 0x0200, []) ∧
  decode [0xF8] = .ok (.sed, [])

/-- The assembler (30_encoding.md R90): what it writes for a mnemonic is an instruction of that mnemonic, and a two-byte form
with an address only when the address fits in 8 bits. It writes every instruction: an Implicit or Accumulator form from the
bare mnemonic; each form of the spec's encoding lists from its operand's syntax, the Absolute ones at the addresses that do
not fit in 8 bits (`AssemblerPicksForm` says which form is picked at the others); JMP and JSR; and each branch from a label the offset byte reaches. The
branch it writes goes to that label when its flag has its value, and to the next instruction otherwise, from every state with
PC at that address (44_branches.md R180 to R188; 40_pipeline_addressing.md R114).
The syntax is decision D27, the opcode assignment D6 and a branch not taken D26; that a label is written as the address it
stands for is the model's choice (log entry 13). -/
def Obligations.AssembledInstructionIsMeant : Prop :=
  ∀ (pc : Addr) (b : Byte) (w : Addr),
    (∀ m o i, assemble pc m o = some i → mnemonic i = m) ∧
    (∀ m o i, o ∈ [.address w, .addressX w, .addressY w] → assemble pc m o = some i → (encode i).length = 2 →
      w.toNat < 256) ∧
    (∀ i, (encode i).length = 1 → assemble pc (mnemonic i) .bare = some i) ∧
    (∀ f ∈ readForms b w, f.length ≠ 3 ∨ 256 ≤ w.toNat →
      assemble pc (mnemonic f.instr) (readAsm f.operand) = some f.instr) ∧
    (∀ f ∈ writeForms b w, f.length ≠ 3 ∨ 256 ≤ w.toNat →
      assemble pc (mnemonic f.instr) (memAsm f.operand) = some f.instr) ∧
    (∀ f ∈ rmwForms b w, f.length ≠ 3 ∨ 256 ≤ w.toNat →
      assemble pc (mnemonic f.instr) (rmwAsm f.operand) = some f.instr) ∧
    assemble pc .JMP (.address w) = some (.jmpAbs w) ∧ assemble pc .JMP (.indirect w) = some (.jmpInd w) ∧
    assemble pc .JSR (.address w) = some (.jsr w) ∧
    (∀ k : Int, -128 ≤ k → k ≤ 127 → (w.toNat : Int) = (pc.toNat + 2 + k) % 65536 →
      ∀ f ∈ branchForms (BitVec.ofInt 8 k), assemble pc (mnemonic f.1) (.label w) = some f.1 ∧
        ∀ s : State, s.pc = pc →
          ∃ t, exec f.1 s = .next t ∧ t.pc = if s.flag f.2.2.1 = f.2.2.2 then w else pc + 2)

/-! ### The step -/

/-- 40_pipeline_addressing.md R100: when the core is not halted and the bytes at PC decode to an instruction, the step is
that instruction's execution and nothing more (PC's move past the bytes is part of `exec`); the step transaction gives the
same next state and answers that the core did not halt ("return false").
Operand addresses mod 65536: decision D16; the transaction is decision D1. -/
def Obligations.StepRunsDecodedInstruction : Prop :=
  ∀ (s : State) (i : Instr) (rest : List Byte), s.halted = false →
    decode [s.readByte s.pc, s.readByte (s.pc + 1), s.readByte (s.pc + 2)] = .ok (i, rest) →
    step s = exec i s ∧ ∃ t, exec i s = .next t ∧ transact .step s = .next (t, .halted false)

/-- 40_pipeline_addressing.md R101: an instruction that does not transfer control completes with PC moved past its bytes,
mod 65536.
The wrap is decision D16. -/
def Obligations.PcMovesPastInstruction : Prop :=
  ∀ (i : Instr) (s : State),
    mnemonic i ∉ [.BPL, .BMI, .BVC, .BVS, .BCC, .BCS, .BNE, .BEQ, .JMP, .JSR, .RTS, .BRK, .RTI] →
    ∃ t, exec i s = .next t ∧ t.pc = s.pc + BitVec.ofNat 16 (encode i).length

/-- 60_exceptions.md R300: fetching one of the 105 opcodes halts the core, records the address and the opcode, changes
nothing else, and the step transaction answers true.
The halt as state and its frame are decisions D14 and D29. -/
def Obligations.IllegalOpcodeHalts : Prop :=
  ∀ s : State, s.halted = false → s.readByte s.pc ∈ unimplementedOpcodes →
    step s = .next { s with halt := some ⟨s.pc, s.readByte s.pc⟩ } ∧
    transact .step s = .next ({ s with halt := some ⟨s.pc, s.readByte s.pc⟩ }, .halted true)

/-- 60_exceptions.md R302: a halted core is unchanged by any number of steps and answers true to each; no transaction but
reset ends the halt, and reset ends it.
The halt as state is decision D14. -/
def Obligations.HaltEndsOnlyByReset : Prop :=
  ∀ s : State, s.halted = true →
    (∀ n, Host.Core.run Sys2Proof.core n s = .next s) ∧
    transact .step s = .next (s, .halted true) ∧
    (∀ t : Transaction, ∃ s' r, transact t s = .next (s', r) ∧ (s'.halted = true ↔ t ≠ .reset))

/-- "All other operations ... cannot fail" (60_exceptions.md R303): from every state, any number of steps completes; no run
ends in a fault or a refusal. -/
def Obligations.EveryRunCompletes : Prop :=
  ∀ (n : Nat) (s : State), ∃ t, Host.Core.run Sys2Proof.core n s = .next t

/-- Every step completes and keeps the invariant: canonical memory, P.U = P.B = 1, and a halt report that agrees with PC.
The bits of P are decision D2; canonical memory is the model's form (log entry 2, DESIGN CHOICE), and so is the form of the
halt report (log entry 1). -/
def Obligations.StepKeepsInv : Prop :=
  ∀ s : State, s.Inv → ∃ t, step s = .next t ∧ t.Inv

/-- The state after reset meets the model's invariant, canonical memory, P.U = P.B = 1 and a halt report that agrees with PC,
and is not halted (10_state.md R35).
The bits of P are decision D2. Canonical memory is the model's form (log entry 2, DESIGN CHOICE), and the halt report's clause
and `none` for "not halted" are the model's form of the halt (log entry 1). -/
def Obligations.ResetMeetsInv : Prop := State.reset.Inv ∧ State.reset.halt = none

/-- Every host transaction, reset, step, memory access and programming mode alike, completes and keeps the invariant:
canonical memory, P.U = P.B = 1, and a halt report that agrees with PC.
The transactions are decision D1 and the bits of P D2; canonical memory is the model's form (log entry 2, DESIGN CHOICE), and
so is the form of the halt report (log entry 1). -/
def Obligations.TransactionKeepsInv : Prop :=
  ∀ (t : Transaction) (s : State), s.Inv → ∃ s' r, transact t s = .next (s', r) ∧ s'.Inv

/-- The protectable region cannot be changed by the program: outside programming mode any number of steps, of any
instructions, leaves every byte of 0x8000..0xFFFF and the programming-mode bit as they were (20_memory.md R53, R73). -/
def Obligations.ProtectedRegionKept : Prop :=
  ∀ (n : Nat) (s : State), s.progMode = false →
    ∃ t, Host.Core.run Sys2Proof.core n s = .next t ∧ t.progMode = false ∧
      ∀ a : Addr, 0x7FFF < a → t.readByte a = s.readByte a

/-- No instruction reads CYC (10_state.md R31): two machines that differ in CYC alone still differ in CYC alone after a
step, and both counts grow by the same amount.
The wrap mod 2^64 is decision D17. -/
def Obligations.CycleCounterReadByNothing : Prop :=
  ∀ (s : State) (c : CycleCount), ∃ (t t' : State) (d : CycleCount),
    step s = .next t ∧ step { s with cyc := c } = .next t' ∧
    t.cyc = s.cyc + d ∧ t' = { t with cyc := c + d }

/-- Every instruction completes and is charged between 2 and 7 cycles, mod 2^64 (70_reset_and_hazards.md R350, R351).
The base costs are decision D7. -/
def Obligations.CostBetweenTwoAndSeven : Prop :=
  ∀ (i : Instr) (s : State), ∃ t n, exec i s = .next t ∧ 2 ≤ n ∧ n ≤ 7 ∧ t.cyc = s.cyc + BitVec.ofNat 64 n

/-! ### Whole-machine frames -/

/-- 10_state.md R33, first half, and R28: an instruction outside a flag's writer column completes with that flag
unchanged.
R33 is the spec's own derived table. -/
def Obligations.OnlyListedInstructionsWriteFlags : Prop :=
  ∀ (i : Instr) (f : Flag) (s : State), mnemonic i ∉ flagWriters f →
    ∃ t, exec i s = .next t ∧ t.flag f = s.flag f

/-- 10_state.md R33, second half: an instruction outside a flag's reader column does not depend on that flag. Run on two
states that differ in that flag alone, it ends in two states that differ in that flag at most.
R33 is the spec's own derived table. -/
def Obligations.OnlyListedInstructionsReadFlags : Prop :=
  ∀ (i : Instr) (f : Flag) (x : Bool) (s : State), mnemonic i ∉ flagReaders f →
    ∃ t t', exec i s = .next t ∧ exec i (s.withFlag f x) = .next t' ∧ t' = t.withFlag f (t'.flag f)

/-- 10_state.md R21 to R24, 20_memory.md R56, R66: every instruction completes; AC, IX, IY, SP and memory are written only
by the instructions the spec lists for each; no instruction touches the halt report or the programming-mode bit.
The lists of memory writers follow the access classes of 40_pipeline_addressing.md R102. -/
def Obligations.OnlyListedInstructionsWriteRegisters : Prop :=
  ∀ (i : Instr) (s : State), ∃ t, exec i s = .next t ∧
    (mnemonic i ∉ [.ADC, .SBC, .AND, .ORA, .EOR, .PLA, .LDA, .TXA, .TYA] →
      i ∉ [.aslAcc, .lsrAcc, .rolAcc, .rorAcc] → t.ac = s.ac) ∧
    (mnemonic i ∉ [.LDX, .TAX, .TSX, .INX, .DEX] → t.ix = s.ix) ∧
    (mnemonic i ∉ [.LDY, .TAY, .INY, .DEY] → t.iy = s.iy) ∧
    (mnemonic i ∉ [.PHA, .PHP, .PLA, .PLP, .JSR, .RTS, .BRK, .RTI, .TXS] → t.sp = s.sp) ∧
    (mnemonic i ∉ [.STA, .STX, .STY, .ASL, .LSR, .ROL, .ROR, .INC, .DEC, .PHA, .PHP, .JSR, .BRK] → t.mem = s.mem) ∧
    t.halt = s.halt ∧ t.progMode = s.progMode

/-! ### Flags, memory, stack -/

/-- 10_state.md R26 to R28: each flag is the bit of P the layout table names, assigning one flag changes that flag alone,
and the pull invariant forces U and B to 1 and takes the other six from the byte.
The bit numbers are decision D2. -/
def Obligations.FlagUnit : Prop :=
  ∀ (p : Byte) (f g : Flag) (x : Bool),
    getFlag p .n = p.getLsbD 7 ∧ getFlag p .v = p.getLsbD 6 ∧ getFlag p .u = p.getLsbD 5 ∧ getFlag p .b = p.getLsbD 4 ∧
    getFlag p .d = p.getLsbD 3 ∧ getFlag p .i = p.getLsbD 2 ∧ getFlag p .z = p.getLsbD 1 ∧ getFlag p .c = p.getLsbD 0 ∧
    getFlag (setFlag p f x) g = (if g = f then x else getFlag p g) ∧
    pulledP p = p ||| 0x30 ∧ FlagsBecome p (pulledP p) [(.u, true), (.b, true)]

/-- 20_memory.md R52, R53: a byte write changes its own cell and nothing else of the state; in the protectable region
outside programming mode it changes nothing at all. -/
def Obligations.ByteWriteRule : Prop :=
  ∀ (s : State) (a : Addr) (v : Byte),
    (∃ m', s.writeByte a v = { s with mem := m' } ∧ MemoryBecomes s m' (admitted s a v)) ∧
    (0x7FFF < a → s.progMode = false → s.writeByte a v = s)

/-- 20_memory.md R54, R55: words are little-endian, the high byte's address wraps mod 65536, each byte of a word write is
admitted or discarded on its own, and a word written where both bytes are admitted reads back. -/
def Obligations.WordAccessRule : Prop :=
  ∀ (s : State) (a w : Addr),
    (s.readWord a).toNat = (s.readByte (BitVec.ofNat 16 ((a.toNat + 1) % 65536))).toNat * 256 + (s.readByte a).toNat ∧
    (∃ m', s.writeWord a w = { s with mem := m' } ∧
      MemoryBecomes s m' (admitted s (a + 1) (BitVec.ofNat 8 (w.toNat / 256)) ++
        admitted s a (BitVec.ofNat 8 (w.toNat % 256)))) ∧
    ((a ≤ 0x7FFF ∧ a + 1 ≤ 0x7FFF) ∨ s.progMode = true → (s.writeWord a w).readWord a = w)

/-- 20_memory.md R60 to R63: a push writes the cell SP names and then decrements SP, a pull increments SP and then reads;
words are pushed high byte first and pulled low byte first; nothing else changes. -/
def Obligations.PushPullRule : Prop :=
  ∀ (s : State) (v : Byte) (w : Addr),
    (∃ m', s.push v = { s with sp := s.sp - 1, mem := m' } ∧
      MemoryBecomes s m' [(config.stackBase + zext16 s.sp, v)]) ∧
    s.pull = (s.readByte (config.stackBase + zext16 (s.sp + 1)), { s with sp := s.sp + 1 }) ∧
    s.push16 w = (s.push (hi w)).push (lo w) ∧
    (∃ l h : Byte, l = s.pull.1 ∧ h = s.pull.2.pull.1 ∧ s.pull16 = (word h l, s.pull.2.pull.2))

/-- 20_memory.md R64, the three stack laws: a word pushed and pulled comes back with SP as it was; 256 pushes in sequence
return SP to its start and write only the 256 cells of 0x0100..0x01FF; a word pushed at SP = 0 has its high byte at 0x0100
and its low byte at 0x01FF and leaves SP = 0xFE.
The window's address is decision D3. -/
def Obligations.StackLaws : Prop :=
  ∀ s : State,
    (∀ w, ((s.push16 w).pull16).1 = w ∧ ((s.push16 w).pull16).2.sp = s.sp) ∧
    (∀ vs : List Byte, vs.length = 256 → (pushAll s vs).sp = s.sp ∧
      (∀ a : Addr, a < 0x0100 ∨ 0x01FF < a → (pushAll s vs).readByte a = s.readByte a) ∧
      (∀ k : Nat, k < 256 → (pushAll s vs).readByte (stackCell (s.sp - BitVec.ofNat 8 k)) = vs.getD k 0)) ∧
    (∀ w, s.sp = 0x00 → (s.push16 w).readByte 0x0100 = hi w ∧ (s.push16 w).readByte 0x01FF = lo w ∧
      (s.push16 w).sp = 0xFE)

/-- The host's memory port (00_scope.md R9; 20_memory.md R52 to R56): a read answers the stored byte or word and changes
nothing; a byte write does what the core's own write does, and a word write writes its two bytes, the high one at the next
address mod 65536, each admitted or discarded on its own; the two mode transactions set and clear the programming-mode bit
alone, and while it is set a write to any address takes effect.
The transaction interface is decision D1. -/
def Obligations.HostMemoryPort : Prop :=
  ∀ (s : State) (a : Addr) (v : Byte) (w : Addr),
    transact (.readByte a) s = .next (s, .byte (s.mem.read a.toNat)) ∧
    transact (.readWord a) s = .next (s, .word (word (s.readByte (a + 1)) (s.readByte a))) ∧
    (∃ m', transact (.writeByte a v) s = .next ({ s with mem := m' }, .done) ∧ MemoryBecomes s m' (admitted s a v)) ∧
    (∃ m', transact (.writeWord a w) s = .next ({ s with mem := m' }, .done) ∧
      MemoryBecomes s m' (admitted s (a + 1) (BitVec.ofNat 8 (w.toNat / 256)) ++
        admitted s a (BitVec.ofNat 8 (w.toNat % 256)))) ∧
    transact .enterProgrammingMode s = .next ({ s with progMode := true }, .done) ∧
    transact .exitProgrammingMode s = .next ({ s with progMode := false }, .done) ∧
    (s.progMode = true →
      (∃ m', transact (.writeByte a v) s = .next ({ s with mem := m' }, .done) ∧ MemoryBecomes s m' [(a, v)]) ∧
      (∃ m', transact (.writeWord a w) s = .next ({ s with mem := m' }, .done) ∧
        MemoryBecomes s m' [(a + 1, hi w), (a, lo w)]))

/-! ### Addressing modes -/

/-- 40_pipeline_addressing.md R106 to R109, R111: operand values and effective addresses of the direct and indexed modes in
numbers, with the page-crossing report. Zero Page indexing stays in page 0; Absolute indexing wraps mod 65536. -/
def Obligations.DirectAddressing : Prop :=
  ∀ (s : State) (b : Byte) (w : Addr) (m : MemMode),
    (ReadOperand.immediate b).value s = b ∧ (ReadOperand.memory m).value s = s.readByte (m.ea s) ∧
    ((MemMode.zeroPage b).ea s).toNat = b.toNat ∧
    ((MemMode.zeroPageX b).ea s).toNat = (b.toNat + s.ix.toNat) % 256 ∧
    ((MemMode.zeroPageY b).ea s).toNat = (b.toNat + s.iy.toNat) % 256 ∧
    (MemMode.absolute w).ea s = w ∧
    ((MemMode.absoluteX w).ea s).toNat = (w.toNat + s.ix.toNat) % 65536 ∧
    ((MemMode.absoluteY w).ea s).toNat = (w.toNat + s.iy.toNat) % 65536 ∧
    (ReadOperand.immediate b).crossed s = false ∧
    (MemMode.zeroPage b).crossed s = false ∧ (MemMode.zeroPageX b).crossed s = false ∧
    (MemMode.zeroPageY b).crossed s = false ∧ (MemMode.absolute w).crossed s = false ∧
    (MemMode.absoluteX w).crossed s = decide ((w.toNat + s.ix.toNat) % 65536 / 256 ≠ w.toNat / 256) ∧
    (MemMode.absoluteY w).crossed s = decide ((w.toNat + s.iy.toNat) % 65536 / 256 ≠ w.toNat / 256)

/-- 40_pipeline_addressing.md R110, R112: the pointer modes. The low byte of a pointer is at p and its high byte at p + 1
with no wrap in page 0, so p = 0xFF takes its high byte from 0x0100; (zp),Y adds IY mod 65536 and reports a crossing against
the pointer, (zp,X) reports none.
The (zp),Y pointer at 0xFF is decision D13. -/
def Obligations.PointerAddressing : Prop :=
  ∀ (s : State) (b : Byte),
    (let p := (s.ix.toNat + b.toNat) % 256
     ((MemMode.indexedIndirect b).ea s).toNat =
        (s.readByte (BitVec.ofNat 16 (p + 1))).toNat * 256 + (s.readByte (BitVec.ofNat 16 p)).toNat ∧
      (MemMode.indexedIndirect b).crossed s = false ∧
      (p = 0xFF → (MemMode.indexedIndirect b).ea s = word (s.readByte 0x0100) (s.readByte 0x00FF))) ∧
    (let base := (s.readByte (BitVec.ofNat 16 (b.toNat + 1))).toNat * 256 + (s.readByte (BitVec.ofNat 16 b.toNat)).toNat
     ((MemMode.indirectIndexed b).ea s).toNat = (base + s.iy.toNat) % 65536 ∧
      (MemMode.indirectIndexed b).crossed s = decide ((base + s.iy.toNat) % 65536 / 256 ≠ base / 256))

/-! ### Arithmetic -/

/-- 41_arithmetic.md R130: ADC in all eight forms, binary and decimal, as the rule's pseudocode over exact numbers has it:
result, N, V, Z, C, everything else unchanged.
The low-nibble test is decision D9, the bit formula of V D11, the opcodes D6, the costs D7. -/
def Obligations.AdcEveryForm : Prop :=
  ∀ (b : Byte) (w : Addr) (s : State), ∀ f ∈ adcForms b w,
    let m8 := f.operand.value s
    let c := bitNat (s.flag .c)
    let r := s.ac.toNat + m8.toNat + c
    let r1 := if s.flag .d = true ∧ s.ac.toNat % 16 + m8.toNat % 16 + c > 9 then r + 0x06 else r
    let r2 := if s.flag .d = true ∧ r1 > 0x99 then r1 + 0x60 else r1
    f.hasOpcode ∧
    ∃ p', exec f.instr s = .next { f.after (f.operand.crossed s) s with ac := BitVec.ofNat 8 r2, p := p' } ∧
      FlagsBecome s.p p'
        [(.n, r1.testBit 7),
         (.v, ((~~~(s.ac ^^^ m8)) &&& (s.ac ^^^ BitVec.ofNat 8 r1) &&& 0x80) != 0),
         (.z, r % 256 == 0),
         (.c, decide (r2 > 0xFF))]

/-- The binary ADC law (95_test_vectors.md E1; 41_arithmetic.md R130's overflow reading): with D = 0 every form completes
with AC = (a + d + c) mod 256, C = (a + d + c > 255), Z and N from the result, and V set exactly when the signed sum is
outside -128..127.
The bit formula of V is decision D11. -/
def Obligations.AdcBinaryLaw : Prop :=
  ∀ (b : Byte) (w : Addr) (s : State), ∀ f ∈ adcForms b w, s.flag .d = false →
    let m8 := f.operand.value s
    let sum := s.ac.toNat + m8.toNat + bitNat (s.flag .c)
    let signed := s.ac.toInt + m8.toInt + (bitNat (s.flag .c) : Int)
    ∃ t, exec f.instr s = .next t ∧ t.ac.toNat = sum % 256 ∧ t.flag .c = decide (sum > 255) ∧
      t.flag .z = decide (t.ac.toNat = 0) ∧ t.flag .n = decide (128 ≤ t.ac.toNat) ∧
      t.flag .v = decide (signed < -128 ∨ 127 < signed)

/-- Decimal ADC adds two-digit decimal numbers: with D = 1 and operands whose nibbles are decimal digits, every form
completes with AC the digits of the sum mod 100 and C the decimal carry.
The low-nibble test is decision D9. -/
def Obligations.AdcAddsDecimalDigits : Prop :=
  ∀ (b : Byte) (w : Addr) (s : State), ∀ f ∈ adcForms b w, s.flag .d = true → ValidBcd s.ac →
    ValidBcd (f.operand.value s) →
    let sum := bcd s.ac + bcd (f.operand.value s) + bitNat (s.flag .c)
    ∃ t, exec f.instr s = .next t ∧ ValidBcd t.ac ∧ bcd t.ac = sum % 100 ∧ t.flag .c = decide (sum ≥ 100)

/-- 41_arithmetic.md R131: SBC in all eight forms, binary and decimal, as the rule's pseudocode over exact integers has it:
N, V and Z from the uncorrected r, C and AC from the corrected one, everything else unchanged.
The low-nibble test is decision D10, the bit formula of V D11, the opcodes D6, the costs D7. -/
def Obligations.SbcEveryForm : Prop :=
  ∀ (b : Byte) (w : Addr) (s : State), ∀ f ∈ sbcForms b w,
    let m8 := f.operand.value s
    let bw : Int := 1 - (bitNat (s.flag .c) : Int)
    let r : Int := (s.ac.toNat : Int) - (m8.toNat : Int) - bw
    let r1 : Int :=
      if s.flag .d = true ∧ (s.ac.toNat : Int) % 16 - bw < (m8.toNat : Int) % 16 then r - 0x06 else r
    let r2 : Int := if s.flag .d = true ∧ (r1 < 0 ∨ r1 > 0x99) then r1 - 0x60 else r1
    f.hasOpcode ∧
    ∃ p', exec f.instr s = .next { f.after (f.operand.crossed s) s with ac := BitVec.ofInt 8 r2, p := p' } ∧
      FlagsBecome s.p p'
        [(.n, decide (128 ≤ r % 256)),
         (.v, ((s.ac ^^^ m8) &&& (s.ac ^^^ BitVec.ofInt 8 r) &&& 0x80) != 0),
         (.z, decide (r % 256 = 0)),
         (.c, decide (0 ≤ r2))]

/-- SBC's flags (41_arithmetic.md R131, corner cases; 95_test_vectors.md E3): in both modes N, Z and V are those of the
binary difference, V set exactly when the signed difference is outside -128..127; in binary mode C = 1 exactly when
AC ≥ M8 + borrow and AC is the difference mod 256.
The bit formula of V is decision D11. -/
def Obligations.SbcFlagsSameInBothModes : Prop :=
  ∀ (b : Byte) (w : Addr) (s : State), ∀ f ∈ sbcForms b w,
    let m8 := f.operand.value s
    let bw := 1 - bitNat (s.flag .c)
    let diff := (s.ac.toNat + 512 - m8.toNat - bw) % 256
    let signed := s.ac.toInt - m8.toInt - (bw : Int)
    ∃ t, exec f.instr s = .next t ∧ t.flag .n = decide (128 ≤ diff) ∧ t.flag .z = decide (diff = 0) ∧
      t.flag .v = decide (signed < -128 ∨ 127 < signed) ∧
      (s.flag .d = false → t.ac.toNat = diff ∧ t.flag .c = decide (m8.toNat + bw ≤ s.ac.toNat))

/-- Decimal SBC subtracts two-digit decimal numbers (41_arithmetic.md R131, corner cases): on operands whose nibbles are
decimal digits AC is the digits of the difference mod 100, and C = 1 exactly when the difference is not negative.
The low-nibble test is decision D10. -/
def Obligations.SbcSubtractsDecimalDigits : Prop :=
  ∀ (b : Byte) (w : Addr) (s : State), ∀ f ∈ sbcForms b w, s.flag .d = true → ValidBcd s.ac →
    ValidBcd (f.operand.value s) →
    let diff : Int := (bcd s.ac : Int) - (bcd (f.operand.value s) : Int) - (1 - (bitNat (s.flag .c) : Int))
    ∃ t, exec f.instr s = .next t ∧ ValidBcd t.ac ∧ (bcd t.ac : Int) = diff % 100 ∧ t.flag .c = decide (0 ≤ diff)

/-! ### Logic, compare, bit test -/

/-- 42_logic_compare_bit.md R140 to R142: AND, ORA and EOR in every form: AC gets the result, N and Z follow it, nothing
else changes.
The opcodes are decision D6, the costs D7. -/
def Obligations.LogicEveryForm : Prop :=
  ∀ (b : Byte) (w : Addr) (s : State) (op : Byte → Byte → Byte) (f : Form ReadOperand),
    (op = (· &&& ·) ∧ f ∈ andForms b w) ∨ (op = (· ||| ·) ∧ f ∈ oraForms b w) ∨ (op = (· ^^^ ·) ∧ f ∈ eorForms b w) →
    let r := op s.ac (f.operand.value s)
    f.hasOpcode ∧
    ∃ p', exec f.instr s = .next { f.after (f.operand.crossed s) s with ac := r, p := p' } ∧
      FlagsBecome s.p p' [(.n, r.getLsbD 7), (.z, r == 0)]

/-- 42_logic_compare_bit.md R143 to R146: CMP, CPX and CPY in every form compare AC, IX or IY with the operand: N and Z from
the difference mod 256, C exactly when the register is not below the operand, unsigned; no register and no other flag
changes.
C as no borrow is decision D19, the opcodes D6, the costs D7. -/
def Obligations.CompareEveryForm : Prop :=
  ∀ (b : Byte) (w : Addr) (s : State) (reg : Byte) (f : Form ReadOperand),
    (reg = s.ac ∧ f ∈ cmpForms b w) ∨ (reg = s.ix ∧ f ∈ cpxForms b w) ∨ (reg = s.iy ∧ f ∈ cpyForms b w) →
    let m := (f.operand.value s).toNat
    let t := (reg.toNat + 256 - m) % 256
    f.hasOpcode ∧
    ∃ p', exec f.instr s = .next { f.after (f.operand.crossed s) s with p := p' } ∧
      FlagsBecome s.p p' [(.n, decide (128 ≤ t)), (.z, decide (reg.toNat = m)), (.c, decide (m ≤ reg.toNat))]

/-- 42_logic_compare_bit.md R147: BIT in both forms: Z from AC & M8, N and V are bits 7 and 6 of M8, nothing else changes.
The opcodes are decision D6, the costs D7. -/
def Obligations.BitTestEveryForm : Prop :=
  ∀ (b : Byte) (w : Addr) (s : State), ∀ f ∈ bitForms b w,
    let m8 := f.operand.value s
    f.hasOpcode ∧
    ∃ p', exec f.instr s = .next { f.after (f.operand.crossed s) s with p := p' } ∧
      FlagsBecome s.p p' [(.z, (s.ac &&& m8) == 0), (.n, m8.getLsbD 7), (.v, m8.getLsbD 6)]

/-! ### Shift, rotate, increment, decrement -/

/-- 43_shift_incdec.md R160 to R164: ASL, LSR, ROL and ROR in every form, on AC or on a memory cell. The bit moved out goes
to C, the old C or 0 comes in, N and Z follow the result; a memory form writes the cell it read, unless the write is
discarded, and the flags follow the computed value either way. Nothing else changes.
The bit movement is decision D30, the opcodes D6, the costs D7. -/
def Obligations.ShiftRotateEveryForm : Prop :=
  ∀ (b : Byte) (w : Addr) (s : State) (f : Form RmwTarget) (v r : Byte) (out : Bool),
    v = f.operand.value s →
    (f ∈ aslForms b w ∧ r.toNat = 2 * v.toNat % 256 ∧ out = v.getLsbD 7) ∨
    (f ∈ lsrForms b w ∧ r.toNat = v.toNat / 2 ∧ out = v.getLsbD 0) ∨
    (f ∈ rolForms b w ∧ r.toNat = (2 * v.toNat + bitNat (s.flag .c)) % 256 ∧ out = v.getLsbD 7) ∨
    (f ∈ rorForms b w ∧ r.toNat = v.toNat / 2 + 128 * bitNat (s.flag .c) ∧ out = v.getLsbD 0) →
    f.hasOpcode ∧
    ∃ p', FlagsBecome s.p p' [(.n, r.getLsbD 7), (.z, r == 0), (.c, out)] ∧
      match f.operand with
      | .accumulator => v = s.ac ∧ exec f.instr s = .next { f.after false s with ac := r, p := p' }
      | .memory m => v = s.readByte (m.ea s) ∧
          ∃ m', exec f.instr s = .next { f.after (m.crossed s) s with p := p', mem := m' } ∧
            MemoryBecomes s m' (admitted s (m.ea s) r)

/-- 43_shift_incdec.md R160, R165, R166: INC and DEC in every form: the cell counts up or down mod 256, N and Z follow, C
and V do not change; where the write is discarded the flags still follow the computed value.
The opcodes are decision D6, the costs D7. -/
def Obligations.IncDecMemoryEveryForm : Prop :=
  ∀ (b : Byte) (w : Addr) (s : State) (f : Form RmwTarget) (m : MemMode) (r : Byte), f.operand = .memory m →
    (f ∈ incForms b w ∧ r.toNat = ((s.readByte (m.ea s)).toNat + 1) % 256) ∨
    (f ∈ decForms b w ∧ r.toNat = ((s.readByte (m.ea s)).toNat + 255) % 256) →
    f.hasOpcode ∧
    ∃ p' m', exec f.instr s = .next { f.after (m.crossed s) s with p := p', mem := m' } ∧
      FlagsBecome s.p p' [(.n, r.getLsbD 7), (.z, r == 0)] ∧
      MemoryBecomes s m' (admitted s (m.ea s) r)

/-- 43_shift_incdec.md R167 to R170: INX, INY, DEX and DEY count their register up or down mod 256; N and Z follow; nothing
else changes but PC (+1) and CYC (+2).
The opcodes are decision D6, the costs D7. -/
def Obligations.IncDecIndexRegisters : Prop :=
  ∀ (s : State) (r : Byte),
    (r.toNat = (s.ix.toNat + 1) % 256 → encode .inx = [0xE8] ∧
      ∃ p', exec .inx s = .next { s with pc := s.pc + 1, cyc := s.cyc + 2, ix := r, p := p' } ∧
        FlagsBecome s.p p' [(.n, r.getLsbD 7), (.z, r == 0)]) ∧
    (r.toNat = (s.iy.toNat + 1) % 256 → encode .iny = [0xC8] ∧
      ∃ p', exec .iny s = .next { s with pc := s.pc + 1, cyc := s.cyc + 2, iy := r, p := p' } ∧
        FlagsBecome s.p p' [(.n, r.getLsbD 7), (.z, r == 0)]) ∧
    (r.toNat = (s.ix.toNat + 255) % 256 → encode .dex = [0xCA] ∧
      ∃ p', exec .dex s = .next { s with pc := s.pc + 1, cyc := s.cyc + 2, ix := r, p := p' } ∧
        FlagsBecome s.p p' [(.n, r.getLsbD 7), (.z, r == 0)]) ∧
    (r.toNat = (s.iy.toNat + 255) % 256 → encode .dey = [0x88] ∧
      ∃ p', exec .dey s = .next { s with pc := s.pc + 1, cyc := s.cyc + 2, iy := r, p := p' } ∧
        FlagsBecome s.p p' [(.n, r.getLsbD 7), (.z, r == 0)])

/-! ### Branches -/

/-- 44_branches.md R180 to R188, 70_reset_and_hazards.md R353: each of the eight branches goes to the target exactly when
its flag has its value and to the next instruction otherwise; the target is next plus the signed offset mod 65536; it costs
2 not taken, 3 taken in the page of next, 4 taken to another page; nothing else changes.
The opcodes and conditions are decision D6, the page test D8, a branch not taken D26. -/
def Obligations.BranchEveryForm : Prop :=
  ∀ (off : Byte) (s : State), ∀ f ∈ branchForms off,
    let next := s.pc + 2
    let taken := s.flag f.2.2.1 == f.2.2.2
    ∃ target : Addr, (target.toNat : Int) = ((next.toNat : Int) + off.toInt) % 65536 ∧
      encode f.1 = [f.2.1, off] ∧
      exec f.1 s = .next { s with
        pc := if taken then target else next
        cyc := s.cyc + (if taken then (if target.toNat / 256 ≠ next.toNat / 256 then 4 else 3) else 2) }

/-! ### Stack instructions -/

/-- 45_stack.md R200, R201: PHA and PHP push AC and the whole P byte: one stack cell, SP down by one, no flag, nothing
else but PC (+1) and CYC (+3).
The window's address is decision D3, the opcodes D6, the costs D7. -/
def Obligations.PushAcAndP : Prop :=
  ∀ s : State,
    (encode .pha = [0x48] ∧
      ∃ m', exec .pha s = .next { s with pc := s.pc + 1, cyc := s.cyc + 3, sp := s.sp - 1, mem := m' } ∧
        MemoryBecomes s m' [(stackCell s.sp, s.ac)]) ∧
    (encode .php = [0x08] ∧
      ∃ m', exec .php s = .next { s with pc := s.pc + 1, cyc := s.cyc + 3, sp := s.sp - 1, mem := m' } ∧
        MemoryBecomes s m' [(stackCell s.sp, s.p)])

/-- 45_stack.md R202, R203: PLA and PLP pull the cell above SP into AC (N and Z follow) or into P under the pull invariant
(six flags from the byte, U and B forced to 1); SP goes up by one; nothing else changes but PC (+1) and CYC (+4).
The window's address is decision D3, the opcodes D6, the costs D7, N and Z of PLA D18. -/
def Obligations.PullAcAndP : Prop :=
  ∀ s : State,
    let v := s.readByte (stackCell (s.sp + 1))
    (encode .pla = [0x68] ∧
      ∃ p', exec .pla s = .next { s with pc := s.pc + 1, cyc := s.cyc + 4, sp := s.sp + 1, ac := v, p := p' } ∧
        FlagsBecome s.p p' [(.n, v.getLsbD 7), (.z, v == 0)]) ∧
    (encode .plp = [0x28] ∧
      exec .plp s = .next { s with pc := s.pc + 1, cyc := s.cyc + 4, sp := s.sp + 1, p := v ||| 0x30 } ∧
      FlagsBecome v (v ||| 0x30) [(.u, true), (.b, true)])

/-- 10_state.md R27: wherever P is assigned a byte pulled from the stack, in PLP and in RTI, P becomes that byte with
bits 5 and 4 forced to 1, whatever they were, and the other six bits as they are in the byte. -/
def Obligations.PullInvariantHolds : Prop :=
  ∀ s : State, ∃ t u, exec .plp s = .next t ∧ exec .rti s = .next u ∧
    t.p = s.pull.1 ||| 0x30 ∧ u.p = s.pull.1 ||| 0x30 ∧ t.flag .u = true ∧ t.flag .b = true ∧
    ∀ f ∈ [Flag.n, .v, .d, .i, .z, .c], t.flag f = getFlag s.pull.1 f ∧ u.flag f = getFlag s.pull.1 f

/-! ### Control transfer -/

/-- 46_control_transfer.md R210: JMP Absolute goes to its operand word; JMP Indirect to the word stored there, whose high
byte is at the next address mod 65536, with no page wrap; nothing else changes but CYC.
No page wrap in the Indirect mode is decision D12, the opcodes D6, the costs D7. -/
def Obligations.JumpBothForms : Prop :=
  ∀ (s : State) (w : Addr),
    (encode (.jmpAbs w)).head? = some 0x4C ∧ (encode (.jmpInd w)).head? = some 0x6C ∧
    exec (.jmpAbs w) s = .next { s with pc := w, cyc := s.cyc + 3 } ∧
    exec (.jmpInd w) s = .next { s with
      pc := word (s.readByte (BitVec.ofNat 16 ((w.toNat + 1) % 65536))) (s.readByte w), cyc := s.cyc + 5 }

/-- 46_control_transfer.md R211: JSR pushes the address of its own last byte, high byte first, and goes to its operand word;
the two stack cells, SP, PC and CYC change and nothing else.
The window's address is decision D3, the opcode D6, the cost D7. -/
def Obligations.JsrPushesItsLastByte : Prop :=
  ∀ (s : State) (w : Addr),
    (encode (.jsr w)).head? = some 0x20 ∧
    ∃ m', exec (.jsr w) s = .next { s with pc := w, sp := s.sp - 2, mem := m', cyc := s.cyc + 6 } ∧
      MemoryBecomes s m' [(stackCell s.sp, hi (s.pc + 2)), (stackCell (s.sp - 1), lo (s.pc + 2))]

/-- 46_control_transfer.md R212: RTS goes to the pulled word plus 1 mod 65536, the low byte pulled first.
The window's address is decision D3, the opcode D6, the cost D7. -/
def Obligations.RtsReturnsPastPulledAddress : Prop :=
  ∀ s : State, encode .rts = [0x60] ∧
    exec .rts s = .next { s with
      pc := word (s.readByte (stackCell (s.sp + 2))) (s.readByte (stackCell (s.sp + 1))) + 1
      sp := s.sp + 2
      cyc := s.cyc + 6 }

/-- 46_control_transfer.md R213, 60_exceptions.md R304: BRK saves pc0 + 2, high byte first, and then the whole P byte as it
stood, sets I and no other flag, takes PC from the word at 0xFFFE, whatever I was; SP drops by 3 and nothing else changes
but CYC (+7).
The vector is decision D5, the return address and the flags D24, the window D3, the opcode D6, the cost D7. -/
def Obligations.BrkTakesTrap : Prop :=
  ∀ s : State, encode .brk = [0x00] ∧
    ∃ p' m', exec .brk s = .next { s with
        pc := word (s.readByte 0xFFFF) (s.readByte 0xFFFE), sp := s.sp - 3, p := p', mem := m', cyc := s.cyc + 7 } ∧
      FlagsBecome s.p p' [(.i, true)] ∧
      MemoryBecomes s m'
        [(stackCell s.sp, hi (s.pc + 2)), (stackCell (s.sp - 1), lo (s.pc + 2)), (stackCell (s.sp - 2), s.p)]

/-- 46_control_transfer.md R214: RTI pulls P, with bits 5 and 4 forced to 1, and then PC, low byte first, with nothing added;
SP rises by 3 and nothing else changes but CYC (+6).
The window's address is decision D3, the opcode D6, the cost D7. -/
def Obligations.RtiReturnsFromTrap : Prop :=
  ∀ s : State, encode .rti = [0x40] ∧
    exec .rti s = .next { s with
      p := s.readByte (stackCell (s.sp + 1)) ||| 0x30
      pc := word (s.readByte (stackCell (s.sp + 3))) (s.readByte (stackCell (s.sp + 2)))
      sp := s.sp + 3
      cyc := s.cyc + 6 }

/-- A subroutine call returns (46_control_transfer.md R212, corner cases): JSR and then RTS leaves every register and flag
as it was and continues at the JSR's address plus 3; memory outside the two pushed cells is unchanged.
The costs are decision D7. -/
def Obligations.JsrThenRtsReturns : Prop :=
  ∀ (s : State) (w : Addr), ∃ t m', exec (.jsr w) s = .next t ∧
    exec .rts t = .next { s with pc := s.pc + 3, mem := m', cyc := s.cyc + 12 } ∧
    ∀ a : Addr, a ≠ stackCell s.sp → a ≠ stackCell (s.sp - 1) → m'.read a.toNat = s.readByte a

/-- The trap returns (46_control_transfer.md R214, corner cases; 60_exceptions.md R305): BRK and then RTI continues at the
BRK's address plus 2 with SP and every flag, I among them, as before, P.U and P.B reading 1; in a state that meets the
invariant the whole P byte is as before.
The return address is decision D24, the costs D7. -/
def Obligations.BrkThenRtiResumes : Prop :=
  ∀ s : State, ∃ t m' p', exec .brk s = .next t ∧
    exec .rti t = .next { s with pc := s.pc + 2, p := p', mem := m', cyc := s.cyc + 13 } ∧
    FlagsBecome s.p p' [(.u, true), (.b, true)] ∧ (s.Inv → p' = s.p) ∧
    ∀ a : Addr, a.toNat < 0x100 ∨ 0x1FF < a.toNat → m'.read a.toNat = s.readByte a

/-! ### Loads, stores, transfers, flag operations, NOP -/

/-- 47_load_store_transfer_flags.md R230 to R232: LDA, LDX and LDY in every form put the operand in their register, N and Z
follow it, nothing else changes.
The flags are decision D18, the opcodes D6, the costs D7. -/
def Obligations.LoadEveryForm : Prop :=
  ∀ (b : Byte) (w : Addr) (s : State) (f : Form ReadOperand),
    let v := f.operand.value s
    (f ∈ ldaForms b w → f.hasOpcode ∧ ∃ p', FlagsBecome s.p p' [(.n, v.getLsbD 7), (.z, v == 0)] ∧
      exec f.instr s = .next { f.after (f.operand.crossed s) s with ac := v, p := p' }) ∧
    (f ∈ ldxForms b w → f.hasOpcode ∧ ∃ p', FlagsBecome s.p p' [(.n, v.getLsbD 7), (.z, v == 0)] ∧
      exec f.instr s = .next { f.after (f.operand.crossed s) s with ix := v, p := p' }) ∧
    (f ∈ ldyForms b w → f.hasOpcode ∧ ∃ p', FlagsBecome s.p p' [(.n, v.getLsbD 7), (.z, v == 0)] ∧
      exec f.instr s = .next { f.after (f.operand.crossed s) s with iy := v, p := p' })

/-- 47_load_store_transfer_flags.md R233 to R235: STA, STX and STY in every form write AC, IX or IY to the effective address,
or nothing where the write is discarded; no flag and no register changes but PC and CYC, which is charged the same whether
or not a page was crossed.
The opcodes are decision D6, the costs D7. -/
def Obligations.StoreEveryForm : Prop :=
  ∀ (b : Byte) (w : Addr) (s : State) (v : Byte) (f : Form MemMode),
    (v = s.ac ∧ f ∈ staForms b w) ∨ (v = s.ix ∧ f ∈ stxForms b w) ∨ (v = s.iy ∧ f ∈ styForms b w) →
    f.hasOpcode ∧ f.crossAdds = false ∧
    ∃ m', exec f.instr s = .next { f.after (f.operand.crossed s) s with mem := m' } ∧
      MemoryBecomes s m' (admitted s (f.operand.ea s) v)

/-- 47_load_store_transfer_flags.md R236 to R241: the six transfers copy their register; all but TXS set N and Z from the
value; nothing else changes but PC (+1) and CYC (+2).
The flags are decision D18, the opcodes D6, the costs D7. -/
def Obligations.TransferRegisters : Prop :=
  ∀ s : State,
    encode .tax = [0xAA] ∧ encode .tay = [0xA8] ∧ encode .txa = [0x8A] ∧ encode .tya = [0x98] ∧
    encode .tsx = [0xBA] ∧ encode .txs = [0x9A] ∧
    (∃ p', exec .tax s = .next { s with pc := s.pc + 1, cyc := s.cyc + 2, ix := s.ac, p := p' } ∧
      FlagsBecome s.p p' [(.n, s.ac.getLsbD 7), (.z, s.ac == 0)]) ∧
    (∃ p', exec .tay s = .next { s with pc := s.pc + 1, cyc := s.cyc + 2, iy := s.ac, p := p' } ∧
      FlagsBecome s.p p' [(.n, s.ac.getLsbD 7), (.z, s.ac == 0)]) ∧
    (∃ p', exec .txa s = .next { s with pc := s.pc + 1, cyc := s.cyc + 2, ac := s.ix, p := p' } ∧
      FlagsBecome s.p p' [(.n, s.ix.getLsbD 7), (.z, s.ix == 0)]) ∧
    (∃ p', exec .tya s = .next { s with pc := s.pc + 1, cyc := s.cyc + 2, ac := s.iy, p := p' } ∧
      FlagsBecome s.p p' [(.n, s.iy.getLsbD 7), (.z, s.iy == 0)]) ∧
    (∃ p', exec .tsx s = .next { s with pc := s.pc + 1, cyc := s.cyc + 2, ix := s.sp, p := p' } ∧
      FlagsBecome s.p p' [(.n, s.sp.getLsbD 7), (.z, s.sp == 0)]) ∧
    exec .txs s = .next { s with pc := s.pc + 1, cyc := s.cyc + 2, sp := s.ix }

/-- 47_load_store_transfer_flags.md R242 to R248: the seven flag instructions write the one flag each names; no other flag
and nothing else changes but PC (+1) and CYC (+2).
The instructions and opcodes are decision D6, the costs D7, the bit numbers D2. -/
def Obligations.FlagInstructions : Prop :=
  ∀ s : State, ∀ f ∈ flagForms, encode f.1 = [f.2.1] ∧
    ∃ p', exec f.1 s = .next { s with pc := s.pc + 1, cyc := s.cyc + 2, p := p' } ∧
      FlagsBecome s.p p' [(f.2.2.1, f.2.2.2)]

/-- 47_load_store_transfer_flags.md R249: NOP changes PC (+1) and CYC (+2) and nothing else.
The opcode is decision D6, the cost D7. -/
def Obligations.NopOnlyAdvances : Prop :=
  ∀ s : State, encode .nop = [0xEA] ∧ exec .nop s = .next { s with pc := s.pc + 1, cyc := s.cyc + 2 }

/-! ### Reset and boot -/

/-- 70_reset_and_hazards.md R330, R331: reset from any state gives the same registers, takes PC from the word at 0xFFFC, and
leaves memory and programming mode as they were.
SP and P after reset are decisions D3 and D2, the vector D4, memory unchanged D15. -/
def Obligations.ResetFromAnyState : Prop :=
  ∀ s : State, ∃ t, transact .reset s = .next (t, .done) ∧
    t = { ac := 0x00, ix := 0x00, iy := 0x00, sp := 0xFF, p := 0x30, cyc := 0, halt := none,
          pc := word (s.readByte 0xFFFD) (s.readByte 0xFFFC), mem := s.mem, progMode := s.progMode }

/-- 70_reset_and_hazards.md R332: in any state whose reset vector was never programmed, so that 0xFFFC, 0xFFFD and 0xFFFF hold
0xFF, reset leaves PC = 0xFFFF and CYC = 0, and the next step halts there on opcode 0xFF and changes nothing else. The
power-up state after reset is one such state.
The vector is decision D4, the halt's frame D14 and D29, power-up memory D15. -/
def Obligations.UnprogrammedVectorHalts : Prop :=
  (∀ s : State, s.readByte 0xFFFC = 0xFF → s.readByte 0xFFFD = 0xFF → s.readByte 0xFFFF = 0xFF →
    ∃ t, transact .reset s = .next (t, .done) ∧ t.pc = 0xFFFF ∧ t.cyc = 0 ∧
      step t = .next { t with halt := some ⟨0xFFFF, 0xFF⟩ }) ∧
  State.reset.readByte 0xFFFC = 0xFF ∧ State.reset.readByte 0xFFFD = 0xFF ∧ State.reset.readByte 0xFFFF = 0xFF ∧
  State.reset.pc = 0xFFFF

/-- 20_memory.md R69: booting an image of 1 to 65536 bytes leaves it with its last byte at 0xFFFF, every cell below it erased,
PC at the reset vector, programming mode clear and the model's invariant true.
`boot`, the order of 70_reset_and_hazards.md R334 as one function of the image, is the model's choice (log entry 4, DESIGN
CHOICE), and the invariant's canonical memory is the model's form (log entry 2, DESIGN CHOICE). Power-up and the reset vector
are decisions D15 and D4. -/
def Obligations.BootPlacesImage : Prop :=
  ∀ image : List Byte, image ≠ [] → image.length ≤ 65536 → ∃ s, boot image = some s ∧
    (∀ k : Nat, k < image.length → s.readByte (BitVec.ofNat 16 (65536 - image.length + k)) = image.getD k 0) ∧
    (∀ a : Addr, a.toNat < 65536 - image.length → s.readByte a = 0xFF) ∧
    s.pc = word (s.readByte 0xFFFD) (s.readByte 0xFFFC) ∧ s.progMode = false ∧ s.Inv

/-! ### The assembler's choice of form; the parameters -/

/-- 30_encoding.md R90: for each operand syntax the assembler answers the mnemonic's form with that operand. It picks the Zero
Page form exactly when the address fits in 8 bits and that form exists, and otherwise the Absolute form; and it has an offset
byte, the branch's distance to its target, exactly for the targets in (pc + 2) - 128 .. (pc + 2) + 127, mod 65536.
The syntax is decision D27. That nothing is written for a target out of that range, or for an operand without a form, is the
model's choice (log entry 13, DESIGN CHOICE). -/
def Obligations.AssemblerPicksForm : Prop :=
  (∀ (pc : Addr) (m : Mnemonic) (b : Byte) (w : Addr),
    (∀ i, (asmForms m).implicit = some i → assemble pc m .bare = some i) ∧
    (∀ i, (asmForms m).accumulator = some i → assemble pc m .accumulator = some i ∧ assemble pc m .bare = some i) ∧
    (∀ f, (asmForms m).immediate = some f → assemble pc m (.immediate b) = some (f b)) ∧
    (∀ f, (asmForms m).indirect = some f → assemble pc m (.indirect w) = some (f w)) ∧
    (∀ f, (asmForms m).indexedIndirect = some f → assemble pc m (.indexedIndirect b) = some (f b)) ∧
    (∀ f, (asmForms m).indirectIndexed = some f → assemble pc m (.indirectIndexed b) = some (f b)) ∧
    (∀ o z a, (o, z, a) ∈ [(.address w, (asmForms m).zeroPage, (asmForms m).absolute),
        (.addressX w, (asmForms m).zeroPageX, (asmForms m).absoluteX),
        (.addressY w, (asmForms m).zeroPageY, (asmForms m).absoluteY)] →
      (∀ f, z = some f → w.toNat < 256 → assemble pc m o = some (f (BitVec.ofNat 8 w.toNat))) ∧
      (z = none ∨ 256 ≤ w.toNat → assemble pc m o = a.map (fun f => f w))) ∧
    (∀ f off, (asmForms m).relative = some f → branchOffset pc w = some off →
      assemble pc m (.label w) = some (f off))) ∧
  (∀ (z : Option (Byte → Instr)) (a : Option (Addr → Instr)) (w : Addr),
    (∀ f, z = some f → w.toNat < 256 → pickForm z a w = some (f (BitVec.ofNat 8 w.toNat))) ∧
    (z = none ∨ 256 ≤ w.toNat → pickForm z a w = a.map (fun f => f w))) ∧
  (∀ (pc target : Addr) (off : Byte),
    branchOffset pc target = some off ↔ (target.toNat : Int) = (pc.toNat + 2 + off.toInt) % 65536) ∧
  (∀ pc target : Addr, (branchOffset pc target).isSome = true ↔
    ∃ k : Int, -128 ≤ k ∧ k ≤ 127 ∧ (target.toNat : Int) = (pc.toNat + 2 + k) % 65536)

/-- 00_scope.md R5, parameter by parameter. The widths are those of the word types. Memory has the 65,536 cells of ADDR_WIDTH:
canonical memory lists addresses below 65536 and no others, every one allowed, and an unlisted one reads ERASED_VALUE. A write
takes effect in WRITABLE_REGION always and in PROTECTABLE_REGION, every address above it, in programming mode only. The stack
base, the vectors and the reset values of SP and P are the table's. An opcode has a dispatch entry exactly when it is one of
the 151 of IMPLEMENTED, which are those that 30_encoding.md R88 does not list. CYCLE_TABLE has each form's base cost and
page-cross add-on (70_reset_and_hazards.md R351), and the branches alone have the branch add-on (R353).
The values are decisions D2 to D7. That the word types are fixed at those widths and canonical memory are the model's choices
(log entries 15 and 2, DESIGN CHOICE). -/
def Obligations.ParametersHaveListedValues : Prop :=
  (config.dataWidth = 8 ∧ config.addrWidth = 16 ∧ config.pcWidth = 16 ∧ config.cycWidth = 64) ∧
  (Byte = BitVec config.dataWidth ∧ Addr = BitVec config.addrWidth ∧ Addr = BitVec config.pcWidth ∧
    CycleCount = BitVec config.cycWidth) ∧
  (2 ^ config.addrWidth = 65536 ∧ (∀ (m : Memory) (c : Host.Cell), m.wf → c ∈ m → c.1 < 65536) ∧
    (∀ (a : Nat) (v : Byte), a < 65536 → v ≠ 0xFF → Memory.wf [(a, v)]) ∧
    config.erasedValue = 0xFF ∧ ∀ (m : Memory) (a : Nat), (∀ c ∈ m, c.1 ≠ a) → m.read a = config.erasedValue) ∧
  (config.writableTop = 0x7FFF ∧
    ∀ (s : State) (a : Addr), s.writable a = true ↔ a ≤ config.writableTop ∨ s.progMode = true) ∧
  (config.stackBase = 0x0100 ∧ config.resetVector = 0xFFFC ∧ config.brkVector = 0xFFFE ∧ config.spReset = 0xFF ∧
    config.pReset = 0x30) ∧
  (config.implemented.length = 151 ∧
    ∀ op : Byte, (op ∈ config.implemented ↔ op ∉ unimplementedOpcodes) ∧
      ((dispatch op).isSome = true ↔ op ∈ config.implemented)) ∧
  (∀ (b : Byte) (w : Addr),
    (∀ f ∈ readForms b w, config.cycleTable f.instr = ⟨f.base, f.crossAdds, false⟩) ∧
    (∀ f ∈ writeForms b w, config.cycleTable f.instr = ⟨f.base, f.crossAdds, false⟩) ∧
    (∀ f ∈ rmwForms b w, config.cycleTable f.instr = ⟨f.base, f.crossAdds, false⟩) ∧
    (∀ f ∈ branchForms b, config.cycleTable f.1 = ⟨2, false, true⟩) ∧
    (∀ f ∈ fixedCostForms w, config.cycleTable f.1 = ⟨f.2, false, false⟩))
end

