-- ==== Sys2Proof/Laws/Bits.lean ====
section
/-! SUPPORT. Bit slices, words and extension, as numbers. -/

namespace Sys2Proof

theorem word_toNat (h l : Byte) : (word h l).toNat = h.toNat * 256 + l.toNat := by
  have e : (word h l).toNat = h.toNat <<< 8 ||| l.toNat := BitVec.toNat_append h l
  rw [e, ← Nat.shiftLeft_add_eq_or_of_lt l.isLt, Nat.shiftLeft_eq]

theorem lo_toNat (w : Addr) : (lo w).toNat = w.toNat % 256 := by simp [lo]

theorem hi_toNat (w : Addr) : (hi w).toNat = w.toNat / 256 := by
  have := w.isLt
  simp [hi, Nat.shiftRight_eq_div_pow]
  omega

@[simp] theorem lo_word (h l : Byte) : lo (word h l) = l := by
  apply BitVec.eq_of_toNat_eq
  have := l.isLt
  rw [lo_toNat, word_toNat]
  omega

@[simp] theorem hi_word (h l : Byte) : hi (word h l) = h := by
  apply BitVec.eq_of_toNat_eq
  have := l.isLt
  rw [hi_toNat, word_toNat]
  omega

@[simp] theorem word_hi_lo (w : Addr) : word (hi w) (lo w) = w := by
  apply BitVec.eq_of_toNat_eq
  rw [word_toNat, hi_toNat, lo_toNat]
  omega

@[simp] theorem zext16_toNat (b : Byte) : (zext16 b).toNat = b.toNat := by
  have := b.isLt
  simp [zext16]
  omega

/-- A page crossing in numbers. -/
theorem hi_ne_iff (a b : Addr) : (hi a != hi b) = decide (a.toNat / 256 ≠ b.toNat / 256) := by
  rw [← hi_toNat, ← hi_toNat, Bool.eq_iff_iff]
  simp [BitVec.toNat_inj]

/-- Adding a sign-extended byte, as integers mod 65536. -/
theorem add_sext16_toNat (a : Addr) (b : Byte) :
    ((a + sext16 b).toNat : Int) = ((a.toNat : Int) + b.toInt) % 65536 := by
  have h : (sext16 b).toInt = b.toInt := by
    simp [sext16, BitVec.toInt_signExtend_of_le]
  have e : ((sext16 b).toNat : Int) % 65536 = b.toInt % 65536 := by
    rw [← h, BitVec.toInt_eq_toNat_bmod]
    have := (sext16 b).isLt
    simp only [Int.bmod]
    split <;> omega
  simp only [BitVec.toNat_add]
  push_cast
  omega

end Sys2Proof
end

