-- ==== Sys2Proof/Laws/Decode.lean ====
section
/-! SUPPORT. The dispatch table against the encoder, entry by entry, and the fetch against the decoder. -/

namespace Sys2Proof

/-- What an entry encodes to, for its opcode. -/
def Entry.Encodes (op : Byte) : Entry → Prop
  | .f1 i => encode i = [op]
  | .f2 form => ∀ b, encode (form b) = [op, b]
  | .f3 form => ∀ w, encode (form w) = [op, lo w, hi w]

/-- Every entry of the opcode map encodes to the opcode it stands under. -/
theorem opcodeEntry_encodes {op : Byte} {e : Entry} (h : opcodeEntry op = some e) : e.Encodes op := by
  unfold opcodeEntry at h
  split at h
  all_goals
    first
    | (rename_i k
       have hop : op = BitVec.ofNat 8 op.toNat := by simp
       rw [k] at hop
       subst hop
       obtain rfl := Option.some.inj h
       first
       | rfl
       | exact fun _ => rfl)
    | cases h

/-- What an entry of the dispatch table is: an implemented opcode's entry of the opcode map. -/
theorem dispatch_eq_some_iff {op : Byte} {e : Entry} :
    dispatch op = some e ↔ op ∈ Machine.config.implemented ∧ opcodeEntry op = some e := by
  simp [dispatch]

/-- Every entry of the dispatch table encodes to the opcode it stands under. -/
theorem dispatch_encodes {op : Byte} {e : Entry} (h : dispatch op = some e) : e.Encodes op :=
  opcodeEntry_encodes (dispatch_eq_some_iff.1 h).2

/-- Decoding what the encoder wrote, through the table. -/
theorem dispatch_encode (i : Instr) :
    ∃ op operands e, encode i = op :: operands ∧ dispatch op = some e ∧
      ((e = .f1 i ∧ operands = []) ∨ (∃ form b, e = .f2 form ∧ form b = i ∧ operands = [b]) ∨
        (∃ form w, e = .f3 form ∧ form w = i ∧ operands = [lo w, hi w])) := by
  cases i
  all_goals
    first
    | exact ⟨_, _, _, rfl, rfl, .inl ⟨rfl, rfl⟩⟩
    | exact ⟨_, _, _, rfl, rfl, .inr (.inl ⟨_, _, rfl, rfl, rfl⟩)⟩
    | exact ⟨_, _, _, rfl, rfl, .inr (.inr ⟨_, _, rfl, rfl, rfl⟩)⟩

theorem decode_none {op : Byte} (h : dispatch op = none) (rest : List Byte) :
    decode (op :: rest) = .error (.unimplemented op) := by simp [decode, h]

theorem decode_some {op : Byte} {e : Entry} (h : dispatch op = some e) (rest : List Byte) :
    decode (op :: rest) = readOperands op e rest := by simp [decode, h]

namespace Machine

/-- The fetch reads what the decoder reads from the bytes at PC. -/
theorem fetchInstr_eq_some_iff (s : State) (i : Instr) :
    fetchInstr s = some i ↔ ∃ rest, decode (fetchWindow s) = .ok (i, rest) := by
  have hw : s.readWord (s.pc + 1#16) = word (s.readByte (s.pc + 2#16)) (s.readByte (s.pc + 1#16)) := by
    have : s.pc + 1#16 + 1 = s.pc + 2#16 := by rw [BitVec.add_assoc]; rfl
    rw [show s.readWord (s.pc + 1#16) = word (s.readByte (s.pc + 1#16 + 1)) (s.readByte (s.pc + 1#16)) from rfl, this]
  unfold fetchInstr fetchWindow decode fetchOpcode
  cases h : dispatch (s.readByte s.pc) with
  | none => simp [h]
  | some e => cases e <;> simp [h, hw, readOperands]

end Machine

end Sys2Proof
end

