-- ==== Sys2Proof/Laws/Exec.lean ====
section
/-! SUPPORT. What an instruction can do, said once: `exec_shape` puts every instruction under one of the shared frames of
Machine/Operands.lean, with the semantics its mnemonic has. A claim over all instructions is a case split on `Shape`. -/

namespace Sys2Proof.Machine

/-- The semantics of the `read` instructions. -/
inductive ReadSem : Mnemonic → (Byte → State → State) → Prop where
  | ADC : ReadSem .ADC adc
  | SBC : ReadSem .SBC sbc
  | AND : ReadSem .AND andAc
  | ORA : ReadSem .ORA oraAc
  | EOR : ReadSem .EOR eorAc
  | CMP : ReadSem .CMP cmp
  | CPX : ReadSem .CPX cpx
  | CPY : ReadSem .CPY cpy
  | BIT : ReadSem .BIT bitTest
  | LDA : ReadSem .LDA loadAc
  | LDX : ReadSem .LDX loadIx
  | LDY : ReadSem .LDY loadIy

/-- The semantics of the `rmw` instructions. -/
inductive RmwSem : Mnemonic → (Byte → Byte → Byte × Byte) → Prop where
  | ASL : RmwSem .ASL aslResult
  | LSR : RmwSem .LSR lsrResult
  | ROL : RmwSem .ROL rolResult
  | ROR : RmwSem .ROR rorResult
  | INC : RmwSem .INC incResult
  | DEC : RmwSem .DEC decResult

/-- The semantics of the Implicit instructions but BRK. -/
inductive ImplicitSem : Mnemonic → (State → State) → Prop where
  | INX : ImplicitSem .INX inx
  | INY : ImplicitSem .INY iny
  | DEX : ImplicitSem .DEX dex
  | DEY : ImplicitSem .DEY dey
  | PHA : ImplicitSem .PHA pha
  | PHP : ImplicitSem .PHP php
  | PLA : ImplicitSem .PLA pla
  | PLP : ImplicitSem .PLP plp
  | RTS : ImplicitSem .RTS rts
  | TAX : ImplicitSem .TAX tax
  | TAY : ImplicitSem .TAY tay
  | TXA : ImplicitSem .TXA txa
  | TYA : ImplicitSem .TYA tya
  | TSX : ImplicitSem .TSX tsx
  | TXS : ImplicitSem .TXS txs
  | CLC : ImplicitSem .CLC clc
  | SEC : ImplicitSem .SEC sec
  | CLI : ImplicitSem .CLI cli
  | SEI : ImplicitSem .SEI sei
  | CLV : ImplicitSem .CLV clv
  | CLD : ImplicitSem .CLD cld
  | SED : ImplicitSem .SED sed
  | NOP : ImplicitSem .NOP nop
  | RTI : ImplicitSem .RTI State.returnFromTrap

/-- The value a `write` instruction stores. -/
inductive WriteSem (s : State) : Mnemonic → Byte → Prop where
  | STA : WriteSem s .STA s.ac
  | STX : WriteSem s .STX s.ix
  | STY : WriteSem s .STY s.iy

/-- The condition of a branch. -/
inductive BranchSem (s : State) : Mnemonic → Bool → Prop where
  | BPL : BranchSem s .BPL (!s.flag .n)
  | BMI : BranchSem s .BMI (s.flag .n)
  | BVC : BranchSem s .BVC (!s.flag .v)
  | BVS : BranchSem s .BVS (s.flag .v)
  | BCC : BranchSem s .BCC (!s.flag .c)
  | BCS : BranchSem s .BCS (s.flag .c)
  | BNE : BranchSem s .BNE (!s.flag .z)
  | BEQ : BranchSem s .BEQ (s.flag .z)

/-- The shapes of an instruction's outcome. -/
inductive Shape (i : Instr) (s : State) : StepOutcome → Prop where
  | read {o sem} (h : ReadSem (mnemonic i) sem) : Shape i s (runRead i o sem s)
  | write {m v} (h : WriteSem s (mnemonic i) v) : Shape i s (runWrite i m v s)
  | rmw {o sem} (h : RmwSem (mnemonic i) sem)
      (hacc : o = .accumulator → i ∈ [Instr.aslAcc, .lsrAcc, .rolAcc, .rorAcc]) : Shape i s (runRmw i o sem s)
  | implicit {sem} (h : ImplicitSem (mnemonic i) sem) : Shape i s (runImplicit i sem s)
  | branch {off cond} (h : BranchSem s (mnemonic i) cond) : Shape i s (runBranch i off cond s)
  | jump {o} (h : mnemonic i = .JMP) : Shape i s (runJump i o s)
  | call {w} (h : i = .jsr w) :
      Shape i s (.next (((s.push16 (s.pc + 2)).withPc w).charge (cost i false false)))
  | trap (h : i = .brk) : Shape i s (.next ((s.takeTrap (s.pc + 2)).charge (cost i false false)))

/-- Every instruction has its shape. -/
theorem exec_shape (i : Instr) (s : State) : Shape i s (exec i s) := by
  cases i
  case adcImm => exact .read .ADC
  case adcZp => exact .read .ADC
  case adcZpX => exact .read .ADC
  case adcAbs => exact .read .ADC
  case adcAbsX => exact .read .ADC
  case adcAbsY => exact .read .ADC
  case adcIndX => exact .read .ADC
  case adcIndY => exact .read .ADC
  case sbcImm => exact .read .SBC
  case sbcZp => exact .read .SBC
  case sbcZpX => exact .read .SBC
  case sbcAbs => exact .read .SBC
  case sbcAbsX => exact .read .SBC
  case sbcAbsY => exact .read .SBC
  case sbcIndX => exact .read .SBC
  case sbcIndY => exact .read .SBC
  case andImm => exact .read .AND
  case andZp => exact .read .AND
  case andZpX => exact .read .AND
  case andAbs => exact .read .AND
  case andAbsX => exact .read .AND
  case andAbsY => exact .read .AND
  case andIndX => exact .read .AND
  case andIndY => exact .read .AND
  case oraImm => exact .read .ORA
  case oraZp => exact .read .ORA
  case oraZpX => exact .read .ORA
  case oraAbs => exact .read .ORA
  case oraAbsX => exact .read .ORA
  case oraAbsY => exact .read .ORA
  case oraIndX => exact .read .ORA
  case oraIndY => exact .read .ORA
  case eorImm => exact .read .EOR
  case eorZp => exact .read .EOR
  case eorZpX => exact .read .EOR
  case eorAbs => exact .read .EOR
  case eorAbsX => exact .read .EOR
  case eorAbsY => exact .read .EOR
  case eorIndX => exact .read .EOR
  case eorIndY => exact .read .EOR
  case cmpImm => exact .read .CMP
  case cmpZp => exact .read .CMP
  case cmpZpX => exact .read .CMP
  case cmpAbs => exact .read .CMP
  case cmpAbsX => exact .read .CMP
  case cmpAbsY => exact .read .CMP
  case cmpIndX => exact .read .CMP
  case cmpIndY => exact .read .CMP
  case cpxImm => exact .read .CPX
  case cpxZp => exact .read .CPX
  case cpxAbs => exact .read .CPX
  case cpyImm => exact .read .CPY
  case cpyZp => exact .read .CPY
  case cpyAbs => exact .read .CPY
  case bitZp => exact .read .BIT
  case bitAbs => exact .read .BIT
  case aslAcc => exact .rmw .ASL (fun _ => by simp)
  case aslZp => exact .rmw .ASL (by simp)
  case aslZpX => exact .rmw .ASL (by simp)
  case aslAbs => exact .rmw .ASL (by simp)
  case aslAbsX => exact .rmw .ASL (by simp)
  case lsrAcc => exact .rmw .LSR (fun _ => by simp)
  case lsrZp => exact .rmw .LSR (by simp)
  case lsrZpX => exact .rmw .LSR (by simp)
  case lsrAbs => exact .rmw .LSR (by simp)
  case lsrAbsX => exact .rmw .LSR (by simp)
  case rolAcc => exact .rmw .ROL (fun _ => by simp)
  case rolZp => exact .rmw .ROL (by simp)
  case rolZpX => exact .rmw .ROL (by simp)
  case rolAbs => exact .rmw .ROL (by simp)
  case rolAbsX => exact .rmw .ROL (by simp)
  case rorAcc => exact .rmw .ROR (fun _ => by simp)
  case rorZp => exact .rmw .ROR (by simp)
  case rorZpX => exact .rmw .ROR (by simp)
  case rorAbs => exact .rmw .ROR (by simp)
  case rorAbsX => exact .rmw .ROR (by simp)
  case incZp => exact .rmw .INC (by simp)
  case incZpX => exact .rmw .INC (by simp)
  case incAbs => exact .rmw .INC (by simp)
  case incAbsX => exact .rmw .INC (by simp)
  case decZp => exact .rmw .DEC (by simp)
  case decZpX => exact .rmw .DEC (by simp)
  case decAbs => exact .rmw .DEC (by simp)
  case decAbsX => exact .rmw .DEC (by simp)
  case inx => exact .implicit .INX
  case iny => exact .implicit .INY
  case dex => exact .implicit .DEX
  case dey => exact .implicit .DEY
  case bpl => exact .branch .BPL
  case bmi => exact .branch .BMI
  case bvc => exact .branch .BVC
  case bvs => exact .branch .BVS
  case bcc => exact .branch .BCC
  case bcs => exact .branch .BCS
  case bne => exact .branch .BNE
  case beq => exact .branch .BEQ
  case pha => exact .implicit .PHA
  case php => exact .implicit .PHP
  case pla => exact .implicit .PLA
  case plp => exact .implicit .PLP
  case jmpAbs => exact .jump rfl
  case jmpInd => exact .jump rfl
  case jsr => exact .call rfl
  case rts => exact .implicit .RTS
  case brk => exact .trap rfl
  case rti => exact .implicit .RTI
  case ldaImm => exact .read .LDA
  case ldaZp => exact .read .LDA
  case ldaZpX => exact .read .LDA
  case ldaAbs => exact .read .LDA
  case ldaAbsX => exact .read .LDA
  case ldaAbsY => exact .read .LDA
  case ldaIndX => exact .read .LDA
  case ldaIndY => exact .read .LDA
  case ldxImm => exact .read .LDX
  case ldxZp => exact .read .LDX
  case ldxZpY => exact .read .LDX
  case ldxAbs => exact .read .LDX
  case ldxAbsY => exact .read .LDX
  case ldyImm => exact .read .LDY
  case ldyZp => exact .read .LDY
  case ldyZpX => exact .read .LDY
  case ldyAbs => exact .read .LDY
  case ldyAbsX => exact .read .LDY
  case staZp => exact .write .STA
  case staZpX => exact .write .STA
  case staAbs => exact .write .STA
  case staAbsX => exact .write .STA
  case staAbsY => exact .write .STA
  case staIndX => exact .write .STA
  case staIndY => exact .write .STA
  case stxZp => exact .write .STX
  case stxZpY => exact .write .STX
  case stxAbs => exact .write .STX
  case styZp => exact .write .STY
  case styZpX => exact .write .STY
  case styAbs => exact .write .STY
  case tax => exact .implicit .TAX
  case tay => exact .implicit .TAY
  case txa => exact .implicit .TXA
  case tya => exact .implicit .TYA
  case tsx => exact .implicit .TSX
  case txs => exact .implicit .TXS
  case clc => exact .implicit .CLC
  case sec => exact .implicit .SEC
  case cli => exact .implicit .CLI
  case sei => exact .implicit .SEI
  case clv => exact .implicit .CLV
  case cld => exact .implicit .CLD
  case sed => exact .implicit .SED
  case nop => exact .implicit .NOP

/-! ### What each shared frame leaves -/

/-- `runRead` completes, with the semantics applied past the instruction's bytes and the cost charged. -/
theorem runRead_eq (i : Instr) (o : ReadOperand) (sem : Byte → State → State) (s : State) :
    runRead i o sem s = .next ((sem (o.value s) (s.advance o.length)).charge (cost i (o.crossed s) false)) := rfl

theorem runWrite_eq (i : Instr) (m : MemMode) (v : Byte) (s : State) :
    runWrite i m v s =
      .next (((s.advance m.length).writeByte (m.ea s) v).charge (cost i (m.crossed s) false)) := rfl

theorem runRmw_eq (i : Instr) (o : RmwTarget) (sem : Byte → Byte → Byte × Byte) (s : State) :
    runRmw i o sem s =
      .next ((o.store s ((s.advance o.length).withP (sem (o.value s) s.p).2) (sem (o.value s) s.p).1).charge
        (cost i (o.crossed s) false)) := rfl

theorem runImplicit_eq (i : Instr) (sem : State → State) (s : State) :
    runImplicit i sem s = .next ((sem (s.advance 1)).charge (cost i false false)) := rfl

theorem runBranch_eq (i : Instr) (off : Byte) (cond : Bool) (s : State) :
    runBranch i off cond s =
      .next ((s.withPc (if cond then branchTarget off s else branchNext s)).charge
        (cost i (hi (branchTarget off s) != hi (branchNext s)) cond)) := rfl

theorem runJump_eq (i : Instr) (o : JumpOperand) (s : State) :
    runJump i o s = .next ((s.withPc (o.target s)).charge (cost i false false)) := rfl

/-- Every instruction completes. -/
theorem exec_completes (i : Instr) (s : State) : ∃ t, exec i s = .next t := by
  have h := exec_shape i s
  generalize exec i s = x at h ⊢
  cases h <;> exact ⟨_, rfl⟩

end Sys2Proof.Machine
end

