-- ==== Sys2Proof/Laws/Flags.lean ====
section
/-! SUPPORT. The flag unit: what each flag operation leaves in each flag, and that the eight flags make up P. -/

namespace Sys2Proof.Machine

/-- Assigning a flag changes that flag and no other (10_state.md R28). -/
@[simp] theorem getFlag_setFlag (p : Byte) (f g : Flag) (x : Bool) :
    getFlag (setFlag p f x) g = if g = f then x else getFlag p g := by
  cases f <;> cases g <;> cases x <;>
    simp [getFlag, setFlag, Flag.mask, Flag.bit]

/-- Two P bytes with the same eight flags are the same byte (R26). -/
theorem eq_of_flags {p q : Byte} (h : ∀ f, getFlag p f = getFlag q f) : p = q := by
  apply BitVec.eq_of_getLsbD_eq
  intro i hi
  have h0 := h .c; have h1 := h .z; have h2 := h .i; have h3 := h .d
  have h4 := h .b; have h5 := h .u; have h6 := h .v; have h7 := h .n
  simp only [getFlag, Flag.bit] at h0 h1 h2 h3 h4 h5 h6 h7
  interval_cases i <;> assumption

/-- `SetNZ` (R29). -/
@[simp] theorem getFlag_setNZ (p v : Byte) (f : Flag) :
    getFlag (setNZ p v) f = if f = .z then v == 0 else if f = .n then v.getLsbD 7 else getFlag p f := by
  simp [setNZ]

@[simp] theorem getFlag_setNZC (p r : Byte) (c : Bool) (f : Flag) :
    getFlag (setNZC p r c) f =
      if f = .c then c else if f = .z then r == 0 else if f = .n then r.getLsbD 7 else getFlag p f := by
  simp [setNZC]

@[simp] theorem getFlag_setNVZC (p : Byte) (n v z c : Bool) (f : Flag) :
    getFlag (setNVZC p n v z c) f =
      if f = .c then c else if f = .z then z else if f = .v then v else if f = .n then n else getFlag p f := by
  simp [setNVZC]

/-- The pull invariant, flag by flag (R27). -/
@[simp] theorem getFlag_pulledP (b : Byte) (f : Flag) :
    getFlag (pulledP b) f = if f = .u ∨ f = .b then true else getFlag b f := by
  cases f <;> simp [getFlag, pulledP, Flag.bit]

@[simp] theorem getFlag_compareFlags (p reg m : Byte) (f : Flag) :
    getFlag (compareFlags p reg m) f =
      if f = .c then decide (m.toNat ≤ reg.toNat) else if f = .z then reg - m == 0
      else if f = .n then (reg - m).getLsbD 7 else getFlag p f := by
  simp [compareFlags]

@[simp] theorem getFlag_bitTestFlags (p ac m : Byte) (f : Flag) :
    getFlag (bitTestFlags p ac m) f =
      if f = .v then m.getLsbD 6 else if f = .n then m.getLsbD 7 else if f = .z then (ac &&& m) == 0
      else getFlag p f := by
  simp [bitTestFlags]

end Sys2Proof.Machine
end

