-- ==== Sys2Proof/Laws/Memory.lean ====
section
/-! SUPPORT. Memory: a read after a write, and that every memory operation keeps the canonical form. -/

namespace Sys2Proof.Machine

@[simp] theorem config_addrWidth : config.addrWidth = 16 := rfl

@[simp] theorem Memory.read_erased (a : Nat) : Memory.erased.read a = 0xFF := rfl

theorem Memory.read_erase (m : Memory) (a b : Nat) :
    (m.erase a).read b = if b = a then Memory.unlisted else m.read b := by
  induction m with
  | nil => simp [Memory.erase, Memory.read]
  | cons c m ih =>
    simp only [Memory.erase, List.filter_cons] at ih ⊢
    by_cases h : c.1 = a <;> by_cases k : c.1 = b <;> simp_all [Memory.read]

theorem Memory.read_insert (m : Memory) (a : Nat) (v : Byte) (b : Nat)
    (h : ∀ c ∈ m, c.1 ≠ a) : (m.insert a v).read b = if b = a then v else m.read b := by
  induction m with
  | nil =>
    by_cases k : a = b
    · simp [Memory.insert, Memory.read, k]
    · simp [Memory.insert, Memory.read, k, Ne.symm k]
  | cons c m ih =>
    have h1 := h c (by simp)
    have h2 := ih (fun d hd => h d (by simp [hd]))
    simp only [Memory.insert]
    split
    · by_cases k : a = b
      · simp [Memory.read, k]
      · simp [Memory.read, k, Ne.symm k]
    · by_cases k : c.1 = b
      · have : b ≠ a := fun e => h1 (k.trans e)
        simp [Memory.read, k, this]
      · simp [Memory.read, k, h2]

theorem Memory.mem_erase {m : Memory} {a : Nat} {c : Host.Cell} :
    c ∈ m.erase a ↔ c ∈ m ∧ c.1 ≠ a := by simp [Memory.erase]

/-- A read after a write (20_memory.md R52, R53, R70). -/
theorem Memory.read_write (m : Memory) (a : Nat) (v : Byte) (b : Nat) :
    (m.write a v).read b = if b = a then v else m.read b := by
  unfold Memory.write
  split
  · next h => rw [Memory.read_erase, h]
  · rw [Memory.read_insert _ _ _ _ (fun c hc => (Memory.mem_erase.1 hc).2), Memory.read_erase]
    split <;> simp_all

theorem Memory.wf_erased : Memory.erased.wf := by simp [Memory.wf, Memory.erased]

/-- The memory after reset is canonical. -/
theorem State.wf_reset_mem : State.reset.mem.wf := Memory.wf_erased

theorem Memory.wf_erase {m : Memory} (h : m.wf) (a : Nat) : (m.erase a).wf :=
  ⟨h.1.filter _, fun c hc => h.2 c (Memory.mem_erase.1 hc).1⟩

theorem Memory.mem_insert {m : Memory} {a : Nat} {v : Byte} {c : Host.Cell} :
    c ∈ m.insert a v ↔ c = (a, v) ∨ c ∈ m := by
  induction m with
  | nil => simp [Memory.insert]
  | cons d m ih =>
    simp only [Memory.insert]
    split
    · simp
    · simp only [List.mem_cons, ih]; tauto

theorem Memory.wf_insert {m : Memory} (h : m.wf) {a : Nat} {v : Byte} (ha : a < 2 ^ config.addrWidth)
    (hv : v ≠ Memory.unlisted) (hm : ∀ c ∈ m, c.1 ≠ a) : (m.insert a v).wf := by
  refine ⟨?_, fun c hc => ?_⟩
  · obtain ⟨hp, -⟩ := h
    induction m with
    | nil => simp [Memory.insert]
    | cons d m ih =>
      rw [List.pairwise_cons] at hp
      simp only [Memory.insert]
      split
      · next hlt =>
        refine List.pairwise_cons.2 ⟨fun c hc => ?_, List.pairwise_cons.2 hp⟩
        rcases List.mem_cons.1 hc with rfl | hc
        · exact hlt
        · exact Nat.lt_trans hlt (hp.1 c hc)
      · next hlt =>
        have hne := hm d (by simp)
        refine List.pairwise_cons.2 ⟨fun c hc => ?_, ih (fun c hc => hm c (by simp [hc])) hp.2⟩
        rcases Memory.mem_insert.1 hc with rfl | hc
        · show d.1 < a; omega
        · exact hp.1 c hc
  · rcases Memory.mem_insert.1 hc with rfl | hc
    · exact ⟨ha, hv⟩
    · exact h.2 c hc

/-- A write keeps the canonical form. -/
theorem Memory.wf_write {m : Memory} (h : m.wf) {a : Nat} (ha : a < 2 ^ config.addrWidth) (v : Byte) : (m.write a v).wf := by
  unfold Memory.write
  split
  · exact Memory.wf_erase h a
  · next hv => exact Memory.wf_insert (Memory.wf_erase h a) ha hv (fun c hc => (Memory.mem_erase.1 hc).2)

/-- Placing bytes keeps the canonical form. -/
theorem wf_placeBytes {m : Memory} (h : m.wf) (a : Addr) (bytes : List Byte) : (placeBytes m a bytes).wf := by
  induction bytes generalizing m a with
  | nil => exact h
  | cons v rest ih => exact ih (Memory.wf_write h a.isLt v) (a + 1)

/-- In the canonical form equal contents are equal data. -/
theorem Memory.ext_of_wf {m m' : Memory} (h : m.wf) (h' : m'.wf) (e : ∀ a, m.read a = m'.read a) : m = m' := by
  have low : ∀ {m : Memory} {a : Nat}, (∀ c ∈ m, a < c.1) → m.read a = Memory.unlisted := by
    intro m a hm
    induction m with
    | nil => rfl
    | cons c m ih =>
      have := hm c (by simp)
      simp only [Memory.read]
      rw [if_neg (by omega)]
      exact ih (fun d hd => hm d (by simp [hd]))
  induction m generalizing m' with
  | nil =>
    cases m' with
    | nil => rfl
    | cons c m' =>
      have := e c.1
      simp only [Memory.read, if_true] at this
      exact absurd this.symm (h'.2 c (by simp)).2
  | cons c m ih =>
    obtain ⟨hp, hv⟩ := h
    rw [List.pairwise_cons] at hp
    cases m' with
    | nil =>
      have := e c.1
      simp only [Memory.read, if_true] at this
      exact absurd this (hv c (by simp)).2
    | cons d m' =>
      obtain ⟨hp', hv'⟩ := h'
      rw [List.pairwise_cons] at hp'
      have hcd : c.1 = d.1 := by
        rcases Nat.lt_trichotomy c.1 d.1 with hlt | heq | hlt
        · have := e c.1
          rw [low (m := d :: m') (fun x hx => by
            rcases List.mem_cons.1 hx with rfl | hx
            · exact hlt
            · exact Nat.lt_trans hlt (hp'.1 x hx))] at this
          simp only [Memory.read, if_true] at this
          exact absurd this (hv c (by simp)).2
        · exact heq
        · have := e d.1
          rw [low (m := c :: m) (fun x hx => by
            rcases List.mem_cons.1 hx with rfl | hx
            · exact hlt
            · exact Nat.lt_trans hlt (hp.1 x hx))] at this
          simp only [Memory.read, if_true] at this
          exact absurd this.symm (hv' d (by simp)).2
      have hval : c.2 = d.2 := by
        have := e c.1
        simpa [Memory.read, hcd] using this
      have htail : m = m' := by
        refine ih ⟨hp.2, fun x hx => hv x (by simp [hx])⟩ ⟨hp'.2, fun x hx => hv' x (by simp [hx])⟩ (fun a => ?_)
        by_cases k : c.1 = a
        · subst k
          rw [low (fun x hx => hp.1 x hx), low (fun x hx => by rw [hcd]; exact hp'.1 x hx)]
        · have := e a
          simpa [Memory.read, k, ← hcd] using this
      rw [htail, Prod.ext hcd hval]

end Sys2Proof.Machine
end

