-- ==== Sys2Proof/Laws/State.lean ====
section
/-! SUPPORT. What each register write of Machine/Ops.lean leaves in each field of State, and the same for the compound
updates that write registers only. -/

namespace Sys2Proof.Machine

@[simp] theorem State.withAc_ac (s : State) (v : Byte) : (s.withAc v).ac = v := rfl
@[simp] theorem State.withAc_ix (s : State) (v : Byte) : (s.withAc v).ix = s.ix := rfl
@[simp] theorem State.withAc_iy (s : State) (v : Byte) : (s.withAc v).iy = s.iy := rfl
@[simp] theorem State.withAc_sp (s : State) (v : Byte) : (s.withAc v).sp = s.sp := rfl
@[simp] theorem State.withAc_pc (s : State) (v : Byte) : (s.withAc v).pc = s.pc := rfl
@[simp] theorem State.withAc_p (s : State) (v : Byte) : (s.withAc v).p = s.p := rfl
@[simp] theorem State.withAc_cyc (s : State) (v : Byte) : (s.withAc v).cyc = s.cyc := rfl
@[simp] theorem State.withAc_halt (s : State) (v : Byte) : (s.withAc v).halt = s.halt := rfl
@[simp] theorem State.withAc_mem (s : State) (v : Byte) : (s.withAc v).mem = s.mem := rfl
@[simp] theorem State.withAc_progMode (s : State) (v : Byte) : (s.withAc v).progMode = s.progMode := rfl

@[simp] theorem State.withIx_ac (s : State) (v : Byte) : (s.withIx v).ac = s.ac := rfl
@[simp] theorem State.withIx_ix (s : State) (v : Byte) : (s.withIx v).ix = v := rfl
@[simp] theorem State.withIx_iy (s : State) (v : Byte) : (s.withIx v).iy = s.iy := rfl
@[simp] theorem State.withIx_sp (s : State) (v : Byte) : (s.withIx v).sp = s.sp := rfl
@[simp] theorem State.withIx_pc (s : State) (v : Byte) : (s.withIx v).pc = s.pc := rfl
@[simp] theorem State.withIx_p (s : State) (v : Byte) : (s.withIx v).p = s.p := rfl
@[simp] theorem State.withIx_cyc (s : State) (v : Byte) : (s.withIx v).cyc = s.cyc := rfl
@[simp] theorem State.withIx_halt (s : State) (v : Byte) : (s.withIx v).halt = s.halt := rfl
@[simp] theorem State.withIx_mem (s : State) (v : Byte) : (s.withIx v).mem = s.mem := rfl
@[simp] theorem State.withIx_progMode (s : State) (v : Byte) : (s.withIx v).progMode = s.progMode := rfl

@[simp] theorem State.withIy_ac (s : State) (v : Byte) : (s.withIy v).ac = s.ac := rfl
@[simp] theorem State.withIy_ix (s : State) (v : Byte) : (s.withIy v).ix = s.ix := rfl
@[simp] theorem State.withIy_iy (s : State) (v : Byte) : (s.withIy v).iy = v := rfl
@[simp] theorem State.withIy_sp (s : State) (v : Byte) : (s.withIy v).sp = s.sp := rfl
@[simp] theorem State.withIy_pc (s : State) (v : Byte) : (s.withIy v).pc = s.pc := rfl
@[simp] theorem State.withIy_p (s : State) (v : Byte) : (s.withIy v).p = s.p := rfl
@[simp] theorem State.withIy_cyc (s : State) (v : Byte) : (s.withIy v).cyc = s.cyc := rfl
@[simp] theorem State.withIy_halt (s : State) (v : Byte) : (s.withIy v).halt = s.halt := rfl
@[simp] theorem State.withIy_mem (s : State) (v : Byte) : (s.withIy v).mem = s.mem := rfl
@[simp] theorem State.withIy_progMode (s : State) (v : Byte) : (s.withIy v).progMode = s.progMode := rfl

@[simp] theorem State.withSp_ac (s : State) (v : Byte) : (s.withSp v).ac = s.ac := rfl
@[simp] theorem State.withSp_ix (s : State) (v : Byte) : (s.withSp v).ix = s.ix := rfl
@[simp] theorem State.withSp_iy (s : State) (v : Byte) : (s.withSp v).iy = s.iy := rfl
@[simp] theorem State.withSp_sp (s : State) (v : Byte) : (s.withSp v).sp = v := rfl
@[simp] theorem State.withSp_pc (s : State) (v : Byte) : (s.withSp v).pc = s.pc := rfl
@[simp] theorem State.withSp_p (s : State) (v : Byte) : (s.withSp v).p = s.p := rfl
@[simp] theorem State.withSp_cyc (s : State) (v : Byte) : (s.withSp v).cyc = s.cyc := rfl
@[simp] theorem State.withSp_halt (s : State) (v : Byte) : (s.withSp v).halt = s.halt := rfl
@[simp] theorem State.withSp_mem (s : State) (v : Byte) : (s.withSp v).mem = s.mem := rfl
@[simp] theorem State.withSp_progMode (s : State) (v : Byte) : (s.withSp v).progMode = s.progMode := rfl

@[simp] theorem State.withPc_ac (s : State) (v : Addr) : (s.withPc v).ac = s.ac := rfl
@[simp] theorem State.withPc_ix (s : State) (v : Addr) : (s.withPc v).ix = s.ix := rfl
@[simp] theorem State.withPc_iy (s : State) (v : Addr) : (s.withPc v).iy = s.iy := rfl
@[simp] theorem State.withPc_sp (s : State) (v : Addr) : (s.withPc v).sp = s.sp := rfl
@[simp] theorem State.withPc_pc (s : State) (v : Addr) : (s.withPc v).pc = v := rfl
@[simp] theorem State.withPc_p (s : State) (v : Addr) : (s.withPc v).p = s.p := rfl
@[simp] theorem State.withPc_cyc (s : State) (v : Addr) : (s.withPc v).cyc = s.cyc := rfl
@[simp] theorem State.withPc_halt (s : State) (v : Addr) : (s.withPc v).halt = s.halt := rfl
@[simp] theorem State.withPc_mem (s : State) (v : Addr) : (s.withPc v).mem = s.mem := rfl
@[simp] theorem State.withPc_progMode (s : State) (v : Addr) : (s.withPc v).progMode = s.progMode := rfl

@[simp] theorem State.withP_ac (s : State) (v : Byte) : (s.withP v).ac = s.ac := rfl
@[simp] theorem State.withP_ix (s : State) (v : Byte) : (s.withP v).ix = s.ix := rfl
@[simp] theorem State.withP_iy (s : State) (v : Byte) : (s.withP v).iy = s.iy := rfl
@[simp] theorem State.withP_sp (s : State) (v : Byte) : (s.withP v).sp = s.sp := rfl
@[simp] theorem State.withP_pc (s : State) (v : Byte) : (s.withP v).pc = s.pc := rfl
@[simp] theorem State.withP_p (s : State) (v : Byte) : (s.withP v).p = v := rfl
@[simp] theorem State.withP_cyc (s : State) (v : Byte) : (s.withP v).cyc = s.cyc := rfl
@[simp] theorem State.withP_halt (s : State) (v : Byte) : (s.withP v).halt = s.halt := rfl
@[simp] theorem State.withP_mem (s : State) (v : Byte) : (s.withP v).mem = s.mem := rfl
@[simp] theorem State.withP_progMode (s : State) (v : Byte) : (s.withP v).progMode = s.progMode := rfl

@[simp] theorem State.withCyc_ac (s : State) (v : CycleCount) : (s.withCyc v).ac = s.ac := rfl
@[simp] theorem State.withCyc_ix (s : State) (v : CycleCount) : (s.withCyc v).ix = s.ix := rfl
@[simp] theorem State.withCyc_iy (s : State) (v : CycleCount) : (s.withCyc v).iy = s.iy := rfl
@[simp] theorem State.withCyc_sp (s : State) (v : CycleCount) : (s.withCyc v).sp = s.sp := rfl
@[simp] theorem State.withCyc_pc (s : State) (v : CycleCount) : (s.withCyc v).pc = s.pc := rfl
@[simp] theorem State.withCyc_p (s : State) (v : CycleCount) : (s.withCyc v).p = s.p := rfl
@[simp] theorem State.withCyc_cyc (s : State) (v : CycleCount) : (s.withCyc v).cyc = v := rfl
@[simp] theorem State.withCyc_halt (s : State) (v : CycleCount) : (s.withCyc v).halt = s.halt := rfl
@[simp] theorem State.withCyc_mem (s : State) (v : CycleCount) : (s.withCyc v).mem = s.mem := rfl
@[simp] theorem State.withCyc_progMode (s : State) (v : CycleCount) : (s.withCyc v).progMode = s.progMode := rfl

@[simp] theorem State.withHalt_ac (s : State) (v : Option HaltReport) : (s.withHalt v).ac = s.ac := rfl
@[simp] theorem State.withHalt_ix (s : State) (v : Option HaltReport) : (s.withHalt v).ix = s.ix := rfl
@[simp] theorem State.withHalt_iy (s : State) (v : Option HaltReport) : (s.withHalt v).iy = s.iy := rfl
@[simp] theorem State.withHalt_sp (s : State) (v : Option HaltReport) : (s.withHalt v).sp = s.sp := rfl
@[simp] theorem State.withHalt_pc (s : State) (v : Option HaltReport) : (s.withHalt v).pc = s.pc := rfl
@[simp] theorem State.withHalt_p (s : State) (v : Option HaltReport) : (s.withHalt v).p = s.p := rfl
@[simp] theorem State.withHalt_cyc (s : State) (v : Option HaltReport) : (s.withHalt v).cyc = s.cyc := rfl
@[simp] theorem State.withHalt_halt (s : State) (v : Option HaltReport) : (s.withHalt v).halt = v := rfl
@[simp] theorem State.withHalt_mem (s : State) (v : Option HaltReport) : (s.withHalt v).mem = s.mem := rfl
@[simp] theorem State.withHalt_progMode (s : State) (v : Option HaltReport) : (s.withHalt v).progMode = s.progMode := rfl

@[simp] theorem State.withMem_ac (s : State) (v : Memory) : (s.withMem v).ac = s.ac := rfl
@[simp] theorem State.withMem_ix (s : State) (v : Memory) : (s.withMem v).ix = s.ix := rfl
@[simp] theorem State.withMem_iy (s : State) (v : Memory) : (s.withMem v).iy = s.iy := rfl
@[simp] theorem State.withMem_sp (s : State) (v : Memory) : (s.withMem v).sp = s.sp := rfl
@[simp] theorem State.withMem_pc (s : State) (v : Memory) : (s.withMem v).pc = s.pc := rfl
@[simp] theorem State.withMem_p (s : State) (v : Memory) : (s.withMem v).p = s.p := rfl
@[simp] theorem State.withMem_cyc (s : State) (v : Memory) : (s.withMem v).cyc = s.cyc := rfl
@[simp] theorem State.withMem_halt (s : State) (v : Memory) : (s.withMem v).halt = s.halt := rfl
@[simp] theorem State.withMem_mem (s : State) (v : Memory) : (s.withMem v).mem = v := rfl
@[simp] theorem State.withMem_progMode (s : State) (v : Memory) : (s.withMem v).progMode = s.progMode := rfl

@[simp] theorem State.withProgMode_ac (s : State) (v : Bool) : (s.withProgMode v).ac = s.ac := rfl
@[simp] theorem State.withProgMode_ix (s : State) (v : Bool) : (s.withProgMode v).ix = s.ix := rfl
@[simp] theorem State.withProgMode_iy (s : State) (v : Bool) : (s.withProgMode v).iy = s.iy := rfl
@[simp] theorem State.withProgMode_sp (s : State) (v : Bool) : (s.withProgMode v).sp = s.sp := rfl
@[simp] theorem State.withProgMode_pc (s : State) (v : Bool) : (s.withProgMode v).pc = s.pc := rfl
@[simp] theorem State.withProgMode_p (s : State) (v : Bool) : (s.withProgMode v).p = s.p := rfl
@[simp] theorem State.withProgMode_cyc (s : State) (v : Bool) : (s.withProgMode v).cyc = s.cyc := rfl
@[simp] theorem State.withProgMode_halt (s : State) (v : Bool) : (s.withProgMode v).halt = s.halt := rfl
@[simp] theorem State.withProgMode_mem (s : State) (v : Bool) : (s.withProgMode v).mem = s.mem := rfl
@[simp] theorem State.withProgMode_progMode (s : State) (v : Bool) : (s.withProgMode v).progMode = v := rfl

@[simp] theorem State.withFlag_ac (s : State) (f : Flag) (x : Bool) : (s.withFlag f x).ac = s.ac := rfl
@[simp] theorem State.withFlag_ix (s : State) (f : Flag) (x : Bool) : (s.withFlag f x).ix = s.ix := rfl
@[simp] theorem State.withFlag_iy (s : State) (f : Flag) (x : Bool) : (s.withFlag f x).iy = s.iy := rfl
@[simp] theorem State.withFlag_sp (s : State) (f : Flag) (x : Bool) : (s.withFlag f x).sp = s.sp := rfl
@[simp] theorem State.withFlag_pc (s : State) (f : Flag) (x : Bool) : (s.withFlag f x).pc = s.pc := rfl
@[simp] theorem State.withFlag_p (s : State) (f : Flag) (x : Bool) : (s.withFlag f x).p = setFlag s.p f x := rfl
@[simp] theorem State.withFlag_cyc (s : State) (f : Flag) (x : Bool) : (s.withFlag f x).cyc = s.cyc := rfl
@[simp] theorem State.withFlag_halt (s : State) (f : Flag) (x : Bool) : (s.withFlag f x).halt = s.halt := rfl
@[simp] theorem State.withFlag_mem (s : State) (f : Flag) (x : Bool) : (s.withFlag f x).mem = s.mem := rfl
@[simp] theorem State.withFlag_progMode (s : State) (f : Flag) (x : Bool) : (s.withFlag f x).progMode = s.progMode := rfl

@[simp] theorem State.advance_ac (s : State) (n : Nat) : (s.advance n).ac = s.ac := rfl
@[simp] theorem State.advance_ix (s : State) (n : Nat) : (s.advance n).ix = s.ix := rfl
@[simp] theorem State.advance_iy (s : State) (n : Nat) : (s.advance n).iy = s.iy := rfl
@[simp] theorem State.advance_sp (s : State) (n : Nat) : (s.advance n).sp = s.sp := rfl
@[simp] theorem State.advance_pc (s : State) (n : Nat) : (s.advance n).pc = s.pc + BitVec.ofNat 16 n := rfl
@[simp] theorem State.advance_p (s : State) (n : Nat) : (s.advance n).p = s.p := rfl
@[simp] theorem State.advance_cyc (s : State) (n : Nat) : (s.advance n).cyc = s.cyc := rfl
@[simp] theorem State.advance_halt (s : State) (n : Nat) : (s.advance n).halt = s.halt := rfl
@[simp] theorem State.advance_mem (s : State) (n : Nat) : (s.advance n).mem = s.mem := rfl
@[simp] theorem State.advance_progMode (s : State) (n : Nat) : (s.advance n).progMode = s.progMode := rfl

@[simp] theorem State.charge_ac (s : State) (n : Nat) : (s.charge n).ac = s.ac := rfl
@[simp] theorem State.charge_ix (s : State) (n : Nat) : (s.charge n).ix = s.ix := rfl
@[simp] theorem State.charge_iy (s : State) (n : Nat) : (s.charge n).iy = s.iy := rfl
@[simp] theorem State.charge_sp (s : State) (n : Nat) : (s.charge n).sp = s.sp := rfl
@[simp] theorem State.charge_pc (s : State) (n : Nat) : (s.charge n).pc = s.pc := rfl
@[simp] theorem State.charge_p (s : State) (n : Nat) : (s.charge n).p = s.p := rfl
@[simp] theorem State.charge_cyc (s : State) (n : Nat) : (s.charge n).cyc = s.cyc + BitVec.ofNat 64 n := rfl
@[simp] theorem State.charge_halt (s : State) (n : Nat) : (s.charge n).halt = s.halt := rfl
@[simp] theorem State.charge_mem (s : State) (n : Nat) : (s.charge n).mem = s.mem := rfl
@[simp] theorem State.charge_progMode (s : State) (n : Nat) : (s.charge n).progMode = s.progMode := rfl

@[simp] theorem loadAc_ac (v : Byte) (s : State) : (loadAc v s).ac = v := rfl
@[simp] theorem loadAc_ix (v : Byte) (s : State) : (loadAc v s).ix = s.ix := rfl
@[simp] theorem loadAc_iy (v : Byte) (s : State) : (loadAc v s).iy = s.iy := rfl
@[simp] theorem loadAc_sp (v : Byte) (s : State) : (loadAc v s).sp = s.sp := rfl
@[simp] theorem loadAc_pc (v : Byte) (s : State) : (loadAc v s).pc = s.pc := rfl
@[simp] theorem loadAc_p (v : Byte) (s : State) : (loadAc v s).p = setNZ s.p v := rfl
@[simp] theorem loadAc_cyc (v : Byte) (s : State) : (loadAc v s).cyc = s.cyc := rfl
@[simp] theorem loadAc_halt (v : Byte) (s : State) : (loadAc v s).halt = s.halt := rfl
@[simp] theorem loadAc_mem (v : Byte) (s : State) : (loadAc v s).mem = s.mem := rfl
@[simp] theorem loadAc_progMode (v : Byte) (s : State) : (loadAc v s).progMode = s.progMode := rfl

@[simp] theorem loadIx_ac (v : Byte) (s : State) : (loadIx v s).ac = s.ac := rfl
@[simp] theorem loadIx_ix (v : Byte) (s : State) : (loadIx v s).ix = v := rfl
@[simp] theorem loadIx_iy (v : Byte) (s : State) : (loadIx v s).iy = s.iy := rfl
@[simp] theorem loadIx_sp (v : Byte) (s : State) : (loadIx v s).sp = s.sp := rfl
@[simp] theorem loadIx_pc (v : Byte) (s : State) : (loadIx v s).pc = s.pc := rfl
@[simp] theorem loadIx_p (v : Byte) (s : State) : (loadIx v s).p = setNZ s.p v := rfl
@[simp] theorem loadIx_cyc (v : Byte) (s : State) : (loadIx v s).cyc = s.cyc := rfl
@[simp] theorem loadIx_halt (v : Byte) (s : State) : (loadIx v s).halt = s.halt := rfl
@[simp] theorem loadIx_mem (v : Byte) (s : State) : (loadIx v s).mem = s.mem := rfl
@[simp] theorem loadIx_progMode (v : Byte) (s : State) : (loadIx v s).progMode = s.progMode := rfl

@[simp] theorem loadIy_ac (v : Byte) (s : State) : (loadIy v s).ac = s.ac := rfl
@[simp] theorem loadIy_ix (v : Byte) (s : State) : (loadIy v s).ix = s.ix := rfl
@[simp] theorem loadIy_iy (v : Byte) (s : State) : (loadIy v s).iy = v := rfl
@[simp] theorem loadIy_sp (v : Byte) (s : State) : (loadIy v s).sp = s.sp := rfl
@[simp] theorem loadIy_pc (v : Byte) (s : State) : (loadIy v s).pc = s.pc := rfl
@[simp] theorem loadIy_p (v : Byte) (s : State) : (loadIy v s).p = setNZ s.p v := rfl
@[simp] theorem loadIy_cyc (v : Byte) (s : State) : (loadIy v s).cyc = s.cyc := rfl
@[simp] theorem loadIy_halt (v : Byte) (s : State) : (loadIy v s).halt = s.halt := rfl
@[simp] theorem loadIy_mem (v : Byte) (s : State) : (loadIy v s).mem = s.mem := rfl
@[simp] theorem loadIy_progMode (v : Byte) (s : State) : (loadIy v s).progMode = s.progMode := rfl

end Sys2Proof.Machine
end

