-- ==== Sys2Proof/Laws/Ops.lean ====
section
/-! SUPPORT. The memory port, the stack, the trap and its return: what each leaves in each field, what it stores where, and
that it keeps memory in canonical form. -/

namespace Sys2Proof.Machine

/-! ### The parameters -/

@[simp] theorem config_writableTop : config.writableTop = 0x7FFF := rfl
@[simp] theorem config_erasedValue : config.erasedValue = 0xFF := rfl
@[simp] theorem config_stackBase : config.stackBase = 0x0100 := rfl
@[simp] theorem config_resetVector : config.resetVector = 0xFFFC := rfl
@[simp] theorem config_brkVector : config.brkVector = 0xFFFE := rfl

/-! ### Reads look at memory only -/

@[simp] theorem State.readByte_withAc (s : State) (v : Byte) (a : Addr) : (s.withAc v).readByte a = s.readByte a := rfl
@[simp] theorem State.readByte_withIx (s : State) (v : Byte) (a : Addr) : (s.withIx v).readByte a = s.readByte a := rfl
@[simp] theorem State.readByte_withIy (s : State) (v : Byte) (a : Addr) : (s.withIy v).readByte a = s.readByte a := rfl
@[simp] theorem State.readByte_withSp (s : State) (v : Byte) (a : Addr) : (s.withSp v).readByte a = s.readByte a := rfl
@[simp] theorem State.readByte_withPc (s : State) (v : Addr) (a : Addr) : (s.withPc v).readByte a = s.readByte a := rfl
@[simp] theorem State.readByte_withP (s : State) (v : Byte) (a : Addr) : (s.withP v).readByte a = s.readByte a := rfl
@[simp] theorem State.readByte_withCyc (s : State) (v : CycleCount) (a : Addr) : (s.withCyc v).readByte a = s.readByte a := rfl
@[simp] theorem State.readByte_withHalt (s : State) (v : Option HaltReport) (a : Addr) : (s.withHalt v).readByte a = s.readByte a := rfl
@[simp] theorem State.readByte_withProgMode (s : State) (v : Bool) (a : Addr) : (s.withProgMode v).readByte a = s.readByte a := rfl
@[simp] theorem State.readByte_withFlag (s : State) (f : Flag) (x : Bool) (a : Addr) : (s.withFlag f x).readByte a = s.readByte a := rfl
@[simp] theorem State.readByte_advance (s : State) (n : Nat) (a : Addr) : (s.advance n).readByte a = s.readByte a := rfl
@[simp] theorem State.readByte_charge (s : State) (n : Nat) (a : Addr) : (s.charge n).readByte a = s.readByte a := rfl

@[simp] theorem State.readWord_withAc (s : State) (v : Byte) (a : Addr) : (s.withAc v).readWord a = s.readWord a := rfl
@[simp] theorem State.readWord_withIx (s : State) (v : Byte) (a : Addr) : (s.withIx v).readWord a = s.readWord a := rfl
@[simp] theorem State.readWord_withIy (s : State) (v : Byte) (a : Addr) : (s.withIy v).readWord a = s.readWord a := rfl
@[simp] theorem State.readWord_withSp (s : State) (v : Byte) (a : Addr) : (s.withSp v).readWord a = s.readWord a := rfl
@[simp] theorem State.readWord_withPc (s : State) (v : Addr) (a : Addr) : (s.withPc v).readWord a = s.readWord a := rfl
@[simp] theorem State.readWord_withP (s : State) (v : Byte) (a : Addr) : (s.withP v).readWord a = s.readWord a := rfl
@[simp] theorem State.readWord_withCyc (s : State) (v : CycleCount) (a : Addr) : (s.withCyc v).readWord a = s.readWord a := rfl
@[simp] theorem State.readWord_withHalt (s : State) (v : Option HaltReport) (a : Addr) : (s.withHalt v).readWord a = s.readWord a := rfl
@[simp] theorem State.readWord_withProgMode (s : State) (v : Bool) (a : Addr) : (s.withProgMode v).readWord a = s.readWord a := rfl
@[simp] theorem State.readWord_withFlag (s : State) (f : Flag) (x : Bool) (a : Addr) : (s.withFlag f x).readWord a = s.readWord a := rfl
@[simp] theorem State.readWord_advance (s : State) (n : Nat) (a : Addr) : (s.advance n).readWord a = s.readWord a := rfl
@[simp] theorem State.readWord_charge (s : State) (n : Nat) (a : Addr) : (s.charge n).readWord a = s.readWord a := rfl

/-- readWord is two byte reads (20_memory.md R54). -/
theorem State.readWord_eq (s : State) (a : Addr) : s.readWord a = word (s.readByte (a + 1)) (s.readByte a) := rfl

/-- Where a write takes effect, in numbers (20_memory.md R53). -/
theorem State.writable_iff (s : State) (a : Addr) : s.writable a = true ↔ a ≤ 0x7FFF ∨ s.progMode = true := by
  unfold State.writable
  rw [Bool.or_eq_true, decide_eq_true_iff]
  rfl

/-! ### writeByte -/

@[simp] theorem State.writeByte_ac (s : State) (a : Addr) (v : Byte) : (s.writeByte a v).ac = s.ac := by
  unfold State.writeByte; split <;> rfl
@[simp] theorem State.writeByte_ix (s : State) (a : Addr) (v : Byte) : (s.writeByte a v).ix = s.ix := by
  unfold State.writeByte; split <;> rfl
@[simp] theorem State.writeByte_iy (s : State) (a : Addr) (v : Byte) : (s.writeByte a v).iy = s.iy := by
  unfold State.writeByte; split <;> rfl
@[simp] theorem State.writeByte_sp (s : State) (a : Addr) (v : Byte) : (s.writeByte a v).sp = s.sp := by
  unfold State.writeByte; split <;> rfl
@[simp] theorem State.writeByte_pc (s : State) (a : Addr) (v : Byte) : (s.writeByte a v).pc = s.pc := by
  unfold State.writeByte; split <;> rfl
@[simp] theorem State.writeByte_p (s : State) (a : Addr) (v : Byte) : (s.writeByte a v).p = s.p := by
  unfold State.writeByte; split <;> rfl
@[simp] theorem State.writeByte_cyc (s : State) (a : Addr) (v : Byte) : (s.writeByte a v).cyc = s.cyc := by
  unfold State.writeByte; split <;> rfl
@[simp] theorem State.writeByte_halt (s : State) (a : Addr) (v : Byte) : (s.writeByte a v).halt = s.halt := by
  unfold State.writeByte; split <;> rfl
@[simp] theorem State.writeByte_progMode (s : State) (a : Addr) (v : Byte) : (s.writeByte a v).progMode = s.progMode := by
  unfold State.writeByte; split <;> rfl

/-- A write touches memory only. -/
theorem State.writeByte_eq_withMem (s : State) (a : Addr) (v : Byte) :
    s.writeByte a v = s.withMem (s.writeByte a v).mem := by
  unfold State.writeByte; split <;> rfl

/-- What every byte reads as after a write (20_memory.md R52, R53). -/
theorem State.readByte_writeByte (s : State) (a : Addr) (v : Byte) (x : Addr) :
    (s.writeByte a v).readByte x = if x = a ∧ s.writable a = true then v else s.readByte x := by
  unfold State.writeByte
  split
  · next h =>
    simp only [State.readByte, State.withMem_mem, Memory.read_write, BitVec.toNat_inj, h, and_true]
  · next h => simp [h]

/-- A write keeps memory in canonical form. -/
theorem State.wf_writeByte {s : State} (h : s.mem.wf) (a : Addr) (v : Byte) : (s.writeByte a v).mem.wf := by
  unfold State.writeByte
  split
  · exact Memory.wf_write h a.isLt v
  · exact h

@[simp] theorem State.writable_writeByte (s : State) (a : Addr) (v : Byte) (x : Addr) :
    (s.writeByte a v).writable x = s.writable x := by simp [State.writable]

/-! ### The stack -/

theorem stackAddr_toNat (sp : Byte) : (stackAddr sp).toNat = 256 + sp.toNat := by
  have := sp.isLt
  simp only [stackAddr, config_stackBase, BitVec.toNat_add, zext16_toNat]
  simp
  omega

/-- A stack cell is writable whatever the mode (20_memory.md R59). -/
@[simp] theorem State.writable_stackAddr (s : State) (sp : Byte) : s.writable (stackAddr sp) = true := by
  have h := stackAddr_toNat sp
  have := sp.isLt
  rw [State.writable_iff, BitVec.le_def, h]
  left
  simp
  omega

@[simp] theorem stackAddr_inj {a b : Byte} : stackAddr a = stackAddr b ↔ a = b := by
  refine ⟨fun h => ?_, fun h => by rw [h]⟩
  have := congrArg BitVec.toNat h
  rw [stackAddr_toNat, stackAddr_toNat] at this
  exact BitVec.eq_of_toNat_eq (by omega)

/-- Outside the stack window nothing is a stack cell (20_memory.md R59). -/
theorem ne_stackAddr {a : Addr} (h : a.toNat < 0x100 ∨ 0x1FF < a.toNat) (sp : Byte) : a ≠ stackAddr sp := by
  intro e
  have := congrArg BitVec.toNat e
  have := sp.isLt
  rw [stackAddr_toNat] at *
  omega

@[simp] theorem State.push_ac (s : State) (v : Byte) : (s.push v).ac = s.ac := by simp [State.push]
@[simp] theorem State.push_ix (s : State) (v : Byte) : (s.push v).ix = s.ix := by simp [State.push]
@[simp] theorem State.push_iy (s : State) (v : Byte) : (s.push v).iy = s.iy := by simp [State.push]
@[simp] theorem State.push_sp (s : State) (v : Byte) : (s.push v).sp = s.sp - 1 := by simp [State.push]
@[simp] theorem State.push_pc (s : State) (v : Byte) : (s.push v).pc = s.pc := by simp [State.push]
@[simp] theorem State.push_p (s : State) (v : Byte) : (s.push v).p = s.p := by simp [State.push]
@[simp] theorem State.push_cyc (s : State) (v : Byte) : (s.push v).cyc = s.cyc := by simp [State.push]
@[simp] theorem State.push_halt (s : State) (v : Byte) : (s.push v).halt = s.halt := by simp [State.push]
@[simp] theorem State.push_progMode (s : State) (v : Byte) : (s.push v).progMode = s.progMode := by simp [State.push]

/-- What every byte reads as after a push (20_memory.md R60). -/
theorem State.readByte_push (s : State) (v : Byte) (x : Addr) :
    (s.push v).readByte x = if x = stackAddr s.sp then v else s.readByte x := by
  simp [State.push, State.readByte_writeByte]

/-- A push writes memory and SP only. -/
theorem State.push_eq (s : State) (v : Byte) : s.push v = (s.withMem (s.push v).mem).withSp (s.sp - 1) := by
  unfold State.push
  rw [State.writeByte_eq_withMem]
  rfl

theorem State.wf_push {s : State} (h : s.mem.wf) (v : Byte) : (s.push v).mem.wf := State.wf_writeByte h _ _

/-- A pull reads the cell above SP and moves SP (20_memory.md R61). -/
theorem State.pull_eq (s : State) : s.pull = (s.readByte (stackAddr (s.sp + 1)), s.withSp (s.sp + 1)) := rfl

/-- Push16 in two pushes (20_memory.md R62). -/
theorem State.push16_eq (s : State) (w : Addr) : s.push16 w = (s.push (hi w)).push (lo w) := rfl

/-- What every byte reads as after Push16. -/
theorem State.readByte_push16 (s : State) (w : Addr) (x : Addr) :
    (s.push16 w).readByte x =
      if x = stackAddr (s.sp - 1) then lo w else if x = stackAddr s.sp then hi w else s.readByte x := by
  simp only [State.push16, State.readByte_push, State.push_sp]

@[simp] theorem State.push16_ac (s : State) (w : Addr) : (s.push16 w).ac = s.ac := by simp [State.push16]
@[simp] theorem State.push16_ix (s : State) (w : Addr) : (s.push16 w).ix = s.ix := by simp [State.push16]
@[simp] theorem State.push16_iy (s : State) (w : Addr) : (s.push16 w).iy = s.iy := by simp [State.push16]
@[simp] theorem State.push16_sp (s : State) (w : Addr) : (s.push16 w).sp = s.sp - 1 - 1 := by simp [State.push16]
@[simp] theorem State.push16_pc (s : State) (w : Addr) : (s.push16 w).pc = s.pc := by simp [State.push16]
@[simp] theorem State.push16_p (s : State) (w : Addr) : (s.push16 w).p = s.p := by simp [State.push16]
@[simp] theorem State.push16_cyc (s : State) (w : Addr) : (s.push16 w).cyc = s.cyc := by simp [State.push16]
@[simp] theorem State.push16_halt (s : State) (w : Addr) : (s.push16 w).halt = s.halt := by simp [State.push16]
@[simp] theorem State.push16_progMode (s : State) (w : Addr) : (s.push16 w).progMode = s.progMode := by simp [State.push16]

/-- Push16 writes memory and SP only. -/
theorem State.push16_eq_with (s : State) (w : Addr) :
    s.push16 w = (s.withMem (s.push16 w).mem).withSp (s.sp - 1 - 1) := by
  unfold State.push16
  rw [State.push_eq (s.push (hi w)), State.push_eq s]
  rfl

theorem State.wf_push16 {s : State} (h : s.mem.wf) (w : Addr) : (s.push16 w).mem.wf :=
  State.wf_push (State.wf_push h _) _

/-- Pull16 reads the two cells above SP, low byte first (20_memory.md R63). -/
theorem State.pull16_eq (s : State) :
    s.pull16 = (word (s.readByte (stackAddr (s.sp + 1 + 1))) (s.readByte (stackAddr (s.sp + 1))),
      s.withSp (s.sp + 1 + 1)) := rfl

/-! ### The trap and its return -/

/-- The trap in one state: three stack cells, SP, P and PC (60_exceptions.md R304). The vector is not a stack cell, so it
reads as it did before the pushes. -/
theorem State.takeTrap_eq (s : State) (ret : Addr) :
    s.takeTrap ret = ((((s.push16 ret).push s.p).withP (setFlag s.p .i true)).withPc (s.readWord 0xFFFE)) := by
  have h : ((s.push16 ret).push s.p).readWord 0xFFFE = s.readWord 0xFFFE := by
    have h1 : ∀ sp : Byte, (0xFFFF#16) ≠ stackAddr sp := ne_stackAddr (by decide)
    have h2 : ∀ sp : Byte, (0xFFFE#16) ≠ stackAddr sp := ne_stackAddr (by decide)
    simp [State.readWord_eq, State.readByte_push, State.readByte_push16, h1, h2]
  simp only [State.takeTrap, config_brkVector, State.withFlag, State.readWord_withP, h, State.push_p,
    State.push16_p]

theorem State.wf_takeTrap {s : State} (h : s.mem.wf) (ret : Addr) : (s.takeTrap ret).mem.wf :=
  State.wf_push (State.wf_push16 h ret) _

/-- The return from the trap in one state (60_exceptions.md R305). -/
theorem State.returnFromTrap_eq (s : State) :
    s.returnFromTrap =
      ((s.withP (pulledP (s.readByte (stackAddr (s.sp + 1))))).withSp (s.sp + 1 + 1 + 1)).withPc
        (word (s.readByte (stackAddr (s.sp + 1 + 1 + 1))) (s.readByte (stackAddr (s.sp + 1 + 1)))) := rfl

end Sys2Proof.Machine
end

