-- ==== Sys2Proof/Laws/Frame.lean ====
section
/-! SUPPORT. What no instruction writes: the halt report and the programming-mode bit. -/

namespace Sys2Proof.Machine

/-- Every instruction completes and leaves the halt report and the programming-mode bit as they were. -/
theorem exec_frame (i : Instr) (s : State) :
    ∃ t, exec i s = .next t ∧ t.halt = s.halt ∧ t.progMode = s.progMode := by
  have h := exec_shape i s
  generalize exec i s = o at h ⊢
  cases h with
  | read h =>
    generalize mnemonic i = m at h
    cases h <;> exact ⟨_, rfl, rfl, rfl⟩
  | write h => exact ⟨_, rfl, by simp⟩
  | @rmw o _ _ _ => exact ⟨_, rfl, by cases o <;> simp [RmwTarget.store]⟩
  | implicit h =>
    generalize mnemonic i = m at h
    cases h
    case PHA => exact ⟨_, rfl, by simp [pha]⟩
    case PHP => exact ⟨_, rfl, by simp [php]⟩
    case RTI => exact ⟨_, rfl, by simp [State.returnFromTrap_eq]⟩
    all_goals exact ⟨_, rfl, rfl, rfl⟩
  | branch h => exact ⟨_, rfl, rfl, rfl⟩
  | jump h => exact ⟨_, rfl, rfl, rfl⟩
  | call h => exact ⟨_, rfl, by simp⟩
  | trap h => exact ⟨_, rfl, by simp [State.takeTrap_eq]⟩

end Sys2Proof.Machine
end

