-- ==== Sys2Proof/Laws/PerInstr.lean ====
section
/-! SUPPORT. Statements made of every instruction, one lemma per constructor (LAWS.json). -/

namespace Sys2Proof.Laws.EncodedLength

/-- The encoding of an instruction is one well-formed byte string: an implemented opcode with exactly its operand bytes, one
to three bytes in all (30_encoding.md R84). -/
def Statement (i : Instr) : Prop :=
  wellFormedBytes (encode i) = true ∧ 1 ≤ (encode i).length ∧ (encode i).length ≤ 3

theorem adcImm (b : Byte) : Statement (.adcImm b) := ⟨rfl, Nat.le_add_left _ _, Nat.le_of_ble_eq_true rfl⟩
theorem adcZp (b : Byte) : Statement (.adcZp b) := ⟨rfl, Nat.le_add_left _ _, Nat.le_of_ble_eq_true rfl⟩
theorem adcZpX (b : Byte) : Statement (.adcZpX b) := ⟨rfl, Nat.le_add_left _ _, Nat.le_of_ble_eq_true rfl⟩
theorem adcAbs (w : Addr) : Statement (.adcAbs w) := ⟨rfl, Nat.le_add_left _ _, Nat.le_of_ble_eq_true rfl⟩
theorem adcAbsX (w : Addr) : Statement (.adcAbsX w) := ⟨rfl, Nat.le_add_left _ _, Nat.le_of_ble_eq_true rfl⟩
theorem adcAbsY (w : Addr) : Statement (.adcAbsY w) := ⟨rfl, Nat.le_add_left _ _, Nat.le_of_ble_eq_true rfl⟩
theorem adcIndX (b : Byte) : Statement (.adcIndX b) := ⟨rfl, Nat.le_add_left _ _, Nat.le_of_ble_eq_true rfl⟩
theorem adcIndY (b : Byte) : Statement (.adcIndY b) := ⟨rfl, Nat.le_add_left _ _, Nat.le_of_ble_eq_true rfl⟩
theorem sbcImm (b : Byte) : Statement (.sbcImm b) := ⟨rfl, Nat.le_add_left _ _, Nat.le_of_ble_eq_true rfl⟩
theorem sbcZp (b : Byte) : Statement (.sbcZp b) := ⟨rfl, Nat.le_add_left _ _, Nat.le_of_ble_eq_true rfl⟩
theorem sbcZpX (b : Byte) : Statement (.sbcZpX b) := ⟨rfl, Nat.le_add_left _ _, Nat.le_of_ble_eq_true rfl⟩
theorem sbcAbs (w : Addr) : Statement (.sbcAbs w) := ⟨rfl, Nat.le_add_left _ _, Nat.le_of_ble_eq_true rfl⟩
theorem sbcAbsX (w : Addr) : Statement (.sbcAbsX w) := ⟨rfl, Nat.le_add_left _ _, Nat.le_of_ble_eq_true rfl⟩
theorem sbcAbsY (w : Addr) : Statement (.sbcAbsY w) := ⟨rfl, Nat.le_add_left _ _, Nat.le_of_ble_eq_true rfl⟩
theorem sbcIndX (b : Byte) : Statement (.sbcIndX b) := ⟨rfl, Nat.le_add_left _ _, Nat.le_of_ble_eq_true rfl⟩
theorem sbcIndY (b : Byte) : Statement (.sbcIndY b) := ⟨rfl, Nat.le_add_left _ _, Nat.le_of_ble_eq_true rfl⟩
theorem andImm (b : Byte) : Statement (.andImm b) := ⟨rfl, Nat.le_add_left _ _, Nat.le_of_ble_eq_true rfl⟩
theorem andZp (b : Byte) : Statement (.andZp b) := ⟨rfl, Nat.le_add_left _ _, Nat.le_of_ble_eq_true rfl⟩
theorem andZpX (b : Byte) : Statement (.andZpX b) := ⟨rfl, Nat.le_add_left _ _, Nat.le_of_ble_eq_true rfl⟩
theorem andAbs (w : Addr) : Statement (.andAbs w) := ⟨rfl, Nat.le_add_left _ _, Nat.le_of_ble_eq_true rfl⟩
theorem andAbsX (w : Addr) : Statement (.andAbsX w) := ⟨rfl, Nat.le_add_left _ _, Nat.le_of_ble_eq_true rfl⟩
theorem andAbsY (w : Addr) : Statement (.andAbsY w) := ⟨rfl, Nat.le_add_left _ _, Nat.le_of_ble_eq_true rfl⟩
theorem andIndX (b : Byte) : Statement (.andIndX b) := ⟨rfl, Nat.le_add_left _ _, Nat.le_of_ble_eq_true rfl⟩
theorem andIndY (b : Byte) : Statement (.andIndY b) := ⟨rfl, Nat.le_add_left _ _, Nat.le_of_ble_eq_true rfl⟩
theorem oraImm (b : Byte) : Statement (.oraImm b) := ⟨rfl, Nat.le_add_left _ _, Nat.le_of_ble_eq_true rfl⟩
theorem oraZp (b : Byte) : Statement (.oraZp b) := ⟨rfl, Nat.le_add_left _ _, Nat.le_of_ble_eq_true rfl⟩
theorem oraZpX (b : Byte) : Statement (.oraZpX b) := ⟨rfl, Nat.le_add_left _ _, Nat.le_of_ble_eq_true rfl⟩
theorem oraAbs (w : Addr) : Statement (.oraAbs w) := ⟨rfl, Nat.le_add_left _ _, Nat.le_of_ble_eq_true rfl⟩
theorem oraAbsX (w : Addr) : Statement (.oraAbsX w) := ⟨rfl, Nat.le_add_left _ _, Nat.le_of_ble_eq_true rfl⟩
theorem oraAbsY (w : Addr) : Statement (.oraAbsY w) := ⟨rfl, Nat.le_add_left _ _, Nat.le_of_ble_eq_true rfl⟩
theorem oraIndX (b : Byte) : Statement (.oraIndX b) := ⟨rfl, Nat.le_add_left _ _, Nat.le_of_ble_eq_true rfl⟩
theorem oraIndY (b : Byte) : Statement (.oraIndY b) := ⟨rfl, Nat.le_add_left _ _, Nat.le_of_ble_eq_true rfl⟩
theorem eorImm (b : Byte) : Statement (.eorImm b) := ⟨rfl, Nat.le_add_left _ _, Nat.le_of_ble_eq_true rfl⟩
theorem eorZp (b : Byte) : Statement (.eorZp b) := ⟨rfl, Nat.le_add_left _ _, Nat.le_of_ble_eq_true rfl⟩
theorem eorZpX (b : Byte) : Statement (.eorZpX b) := ⟨rfl, Nat.le_add_left _ _, Nat.le_of_ble_eq_true rfl⟩
theorem eorAbs (w : Addr) : Statement (.eorAbs w) := ⟨rfl, Nat.le_add_left _ _, Nat.le_of_ble_eq_true rfl⟩
theorem eorAbsX (w : Addr) : Statement (.eorAbsX w) := ⟨rfl, Nat.le_add_left _ _, Nat.le_of_ble_eq_true rfl⟩
theorem eorAbsY (w : Addr) : Statement (.eorAbsY w) := ⟨rfl, Nat.le_add_left _ _, Nat.le_of_ble_eq_true rfl⟩
theorem eorIndX (b : Byte) : Statement (.eorIndX b) := ⟨rfl, Nat.le_add_left _ _, Nat.le_of_ble_eq_true rfl⟩
theorem eorIndY (b : Byte) : Statement (.eorIndY b) := ⟨rfl, Nat.le_add_left _ _, Nat.le_of_ble_eq_true rfl⟩
theorem cmpImm (b : Byte) : Statement (.cmpImm b) := ⟨rfl, Nat.le_add_left _ _, Nat.le_of_ble_eq_true rfl⟩
theorem cmpZp (b : Byte) : Statement (.cmpZp b) := ⟨rfl, Nat.le_add_left _ _, Nat.le_of_ble_eq_true rfl⟩
theorem cmpZpX (b : Byte) : Statement (.cmpZpX b) := ⟨rfl, Nat.le_add_left _ _, Nat.le_of_ble_eq_true rfl⟩
theorem cmpAbs (w : Addr) : Statement (.cmpAbs w) := ⟨rfl, Nat.le_add_left _ _, Nat.le_of_ble_eq_true rfl⟩
theorem cmpAbsX (w : Addr) : Statement (.cmpAbsX w) := ⟨rfl, Nat.le_add_left _ _, Nat.le_of_ble_eq_true rfl⟩
theorem cmpAbsY (w : Addr) : Statement (.cmpAbsY w) := ⟨rfl, Nat.le_add_left _ _, Nat.le_of_ble_eq_true rfl⟩
theorem cmpIndX (b : Byte) : Statement (.cmpIndX b) := ⟨rfl, Nat.le_add_left _ _, Nat.le_of_ble_eq_true rfl⟩
theorem cmpIndY (b : Byte) : Statement (.cmpIndY b) := ⟨rfl, Nat.le_add_left _ _, Nat.le_of_ble_eq_true rfl⟩
theorem cpxImm (b : Byte) : Statement (.cpxImm b) := ⟨rfl, Nat.le_add_left _ _, Nat.le_of_ble_eq_true rfl⟩
theorem cpxZp (b : Byte) : Statement (.cpxZp b) := ⟨rfl, Nat.le_add_left _ _, Nat.le_of_ble_eq_true rfl⟩
theorem cpxAbs (w : Addr) : Statement (.cpxAbs w) := ⟨rfl, Nat.le_add_left _ _, Nat.le_of_ble_eq_true rfl⟩
theorem cpyImm (b : Byte) : Statement (.cpyImm b) := ⟨rfl, Nat.le_add_left _ _, Nat.le_of_ble_eq_true rfl⟩
theorem cpyZp (b : Byte) : Statement (.cpyZp b) := ⟨rfl, Nat.le_add_left _ _, Nat.le_of_ble_eq_true rfl⟩
theorem cpyAbs (w : Addr) : Statement (.cpyAbs w) := ⟨rfl, Nat.le_add_left _ _, Nat.le_of_ble_eq_true rfl⟩
theorem bitZp (b : Byte) : Statement (.bitZp b) := ⟨rfl, Nat.le_add_left _ _, Nat.le_of_ble_eq_true rfl⟩
theorem bitAbs (w : Addr) : Statement (.bitAbs w) := ⟨rfl, Nat.le_add_left _ _, Nat.le_of_ble_eq_true rfl⟩
theorem aslAcc : Statement .aslAcc := ⟨rfl, Nat.le_add_left _ _, Nat.le_of_ble_eq_true rfl⟩
theorem aslZp (b : Byte) : Statement (.aslZp b) := ⟨rfl, Nat.le_add_left _ _, Nat.le_of_ble_eq_true rfl⟩
theorem aslZpX (b : Byte) : Statement (.aslZpX b) := ⟨rfl, Nat.le_add_left _ _, Nat.le_of_ble_eq_true rfl⟩
theorem aslAbs (w : Addr) : Statement (.aslAbs w) := ⟨rfl, Nat.le_add_left _ _, Nat.le_of_ble_eq_true rfl⟩
theorem aslAbsX (w : Addr) : Statement (.aslAbsX w) := ⟨rfl, Nat.le_add_left _ _, Nat.le_of_ble_eq_true rfl⟩
theorem lsrAcc : Statement .lsrAcc := ⟨rfl, Nat.le_add_left _ _, Nat.le_of_ble_eq_true rfl⟩
theorem lsrZp (b : Byte) : Statement (.lsrZp b) := ⟨rfl, Nat.le_add_left _ _, Nat.le_of_ble_eq_true rfl⟩
theorem lsrZpX (b : Byte) : Statement (.lsrZpX b) := ⟨rfl, Nat.le_add_left _ _, Nat.le_of_ble_eq_true rfl⟩
theorem lsrAbs (w : Addr) : Statement (.lsrAbs w) := ⟨rfl, Nat.le_add_left _ _, Nat.le_of_ble_eq_true rfl⟩
theorem lsrAbsX (w : Addr) : Statement (.lsrAbsX w) := ⟨rfl, Nat.le_add_left _ _, Nat.le_of_ble_eq_true rfl⟩
theorem rolAcc : Statement .rolAcc := ⟨rfl, Nat.le_add_left _ _, Nat.le_of_ble_eq_true rfl⟩
theorem rolZp (b : Byte) : Statement (.rolZp b) := ⟨rfl, Nat.le_add_left _ _, Nat.le_of_ble_eq_true rfl⟩
theorem rolZpX (b : Byte) : Statement (.rolZpX b) := ⟨rfl, Nat.le_add_left _ _, Nat.le_of_ble_eq_true rfl⟩
theorem rolAbs (w : Addr) : Statement (.rolAbs w) := ⟨rfl, Nat.le_add_left _ _, Nat.le_of_ble_eq_true rfl⟩
theorem rolAbsX (w : Addr) : Statement (.rolAbsX w) := ⟨rfl, Nat.le_add_left _ _, Nat.le_of_ble_eq_true rfl⟩
theorem rorAcc : Statement .rorAcc := ⟨rfl, Nat.le_add_left _ _, Nat.le_of_ble_eq_true rfl⟩
theorem rorZp (b : Byte) : Statement (.rorZp b) := ⟨rfl, Nat.le_add_left _ _, Nat.le_of_ble_eq_true rfl⟩
theorem rorZpX (b : Byte) : Statement (.rorZpX b) := ⟨rfl, Nat.le_add_left _ _, Nat.le_of_ble_eq_true rfl⟩
theorem rorAbs (w : Addr) : Statement (.rorAbs w) := ⟨rfl, Nat.le_add_left _ _, Nat.le_of_ble_eq_true rfl⟩
theorem rorAbsX (w : Addr) : Statement (.rorAbsX w) := ⟨rfl, Nat.le_add_left _ _, Nat.le_of_ble_eq_true rfl⟩
theorem incZp (b : Byte) : Statement (.incZp b) := ⟨rfl, Nat.le_add_left _ _, Nat.le_of_ble_eq_true rfl⟩
theorem incZpX (b : Byte) : Statement (.incZpX b) := ⟨rfl, Nat.le_add_left _ _, Nat.le_of_ble_eq_true rfl⟩
theorem incAbs (w : Addr) : Statement (.incAbs w) := ⟨rfl, Nat.le_add_left _ _, Nat.le_of_ble_eq_true rfl⟩
theorem incAbsX (w : Addr) : Statement (.incAbsX w) := ⟨rfl, Nat.le_add_left _ _, Nat.le_of_ble_eq_true rfl⟩
theorem decZp (b : Byte) : Statement (.decZp b) := ⟨rfl, Nat.le_add_left _ _, Nat.le_of_ble_eq_true rfl⟩
theorem decZpX (b : Byte) : Statement (.decZpX b) := ⟨rfl, Nat.le_add_left _ _, Nat.le_of_ble_eq_true rfl⟩
theorem decAbs (w : Addr) : Statement (.decAbs w) := ⟨rfl, Nat.le_add_left _ _, Nat.le_of_ble_eq_true rfl⟩
theorem decAbsX (w : Addr) : Statement (.decAbsX w) := ⟨rfl, Nat.le_add_left _ _, Nat.le_of_ble_eq_true rfl⟩
theorem inx : Statement .inx := ⟨rfl, Nat.le_add_left _ _, Nat.le_of_ble_eq_true rfl⟩
theorem iny : Statement .iny := ⟨rfl, Nat.le_add_left _ _, Nat.le_of_ble_eq_true rfl⟩
theorem dex : Statement .dex := ⟨rfl, Nat.le_add_left _ _, Nat.le_of_ble_eq_true rfl⟩
theorem dey : Statement .dey := ⟨rfl, Nat.le_add_left _ _, Nat.le_of_ble_eq_true rfl⟩
theorem bpl (b : Byte) : Statement (.bpl b) := ⟨rfl, Nat.le_add_left _ _, Nat.le_of_ble_eq_true rfl⟩
theorem bmi (b : Byte) : Statement (.bmi b) := ⟨rfl, Nat.le_add_left _ _, Nat.le_of_ble_eq_true rfl⟩
theorem bvc (b : Byte) : Statement (.bvc b) := ⟨rfl, Nat.le_add_left _ _, Nat.le_of_ble_eq_true rfl⟩
theorem bvs (b : Byte) : Statement (.bvs b) := ⟨rfl, Nat.le_add_left _ _, Nat.le_of_ble_eq_true rfl⟩
theorem bcc (b : Byte) : Statement (.bcc b) := ⟨rfl, Nat.le_add_left _ _, Nat.le_of_ble_eq_true rfl⟩
theorem bcs (b : Byte) : Statement (.bcs b) := ⟨rfl, Nat.le_add_left _ _, Nat.le_of_ble_eq_true rfl⟩
theorem bne (b : Byte) : Statement (.bne b) := ⟨rfl, Nat.le_add_left _ _, Nat.le_of_ble_eq_true rfl⟩
theorem beq (b : Byte) : Statement (.beq b) := ⟨rfl, Nat.le_add_left _ _, Nat.le_of_ble_eq_true rfl⟩
theorem pha : Statement .pha := ⟨rfl, Nat.le_add_left _ _, Nat.le_of_ble_eq_true rfl⟩
theorem php : Statement .php := ⟨rfl, Nat.le_add_left _ _, Nat.le_of_ble_eq_true rfl⟩
theorem pla : Statement .pla := ⟨rfl, Nat.le_add_left _ _, Nat.le_of_ble_eq_true rfl⟩
theorem plp : Statement .plp := ⟨rfl, Nat.le_add_left _ _, Nat.le_of_ble_eq_true rfl⟩
theorem jmpAbs (w : Addr) : Statement (.jmpAbs w) := ⟨rfl, Nat.le_add_left _ _, Nat.le_of_ble_eq_true rfl⟩
theorem jmpInd (w : Addr) : Statement (.jmpInd w) := ⟨rfl, Nat.le_add_left _ _, Nat.le_of_ble_eq_true rfl⟩
theorem jsr (w : Addr) : Statement (.jsr w) := ⟨rfl, Nat.le_add_left _ _, Nat.le_of_ble_eq_true rfl⟩
theorem rts : Statement .rts := ⟨rfl, Nat.le_add_left _ _, Nat.le_of_ble_eq_true rfl⟩
theorem brk : Statement .brk := ⟨rfl, Nat.le_add_left _ _, Nat.le_of_ble_eq_true rfl⟩
theorem rti : Statement .rti := ⟨rfl, Nat.le_add_left _ _, Nat.le_of_ble_eq_true rfl⟩
theorem ldaImm (b : Byte) : Statement (.ldaImm b) := ⟨rfl, Nat.le_add_left _ _, Nat.le_of_ble_eq_true rfl⟩
theorem ldaZp (b : Byte) : Statement (.ldaZp b) := ⟨rfl, Nat.le_add_left _ _, Nat.le_of_ble_eq_true rfl⟩
theorem ldaZpX (b : Byte) : Statement (.ldaZpX b) := ⟨rfl, Nat.le_add_left _ _, Nat.le_of_ble_eq_true rfl⟩
theorem ldaAbs (w : Addr) : Statement (.ldaAbs w) := ⟨rfl, Nat.le_add_left _ _, Nat.le_of_ble_eq_true rfl⟩
theorem ldaAbsX (w : Addr) : Statement (.ldaAbsX w) := ⟨rfl, Nat.le_add_left _ _, Nat.le_of_ble_eq_true rfl⟩
theorem ldaAbsY (w : Addr) : Statement (.ldaAbsY w) := ⟨rfl, Nat.le_add_left _ _, Nat.le_of_ble_eq_true rfl⟩
theorem ldaIndX (b : Byte) : Statement (.ldaIndX b) := ⟨rfl, Nat.le_add_left _ _, Nat.le_of_ble_eq_true rfl⟩
theorem ldaIndY (b : Byte) : Statement (.ldaIndY b) := ⟨rfl, Nat.le_add_left _ _, Nat.le_of_ble_eq_true rfl⟩
theorem ldxImm (b : Byte) : Statement (.ldxImm b) := ⟨rfl, Nat.le_add_left _ _, Nat.le_of_ble_eq_true rfl⟩
theorem ldxZp (b : Byte) : Statement (.ldxZp b) := ⟨rfl, Nat.le_add_left _ _, Nat.le_of_ble_eq_true rfl⟩
theorem ldxZpY (b : Byte) : Statement (.ldxZpY b) := ⟨rfl, Nat.le_add_left _ _, Nat.le_of_ble_eq_true rfl⟩
theorem ldxAbs (w : Addr) : Statement (.ldxAbs w) := ⟨rfl, Nat.le_add_left _ _, Nat.le_of_ble_eq_true rfl⟩
theorem ldxAbsY (w : Addr) : Statement (.ldxAbsY w) := ⟨rfl, Nat.le_add_left _ _, Nat.le_of_ble_eq_true rfl⟩
theorem ldyImm (b : Byte) : Statement (.ldyImm b) := ⟨rfl, Nat.le_add_left _ _, Nat.le_of_ble_eq_true rfl⟩
theorem ldyZp (b : Byte) : Statement (.ldyZp b) := ⟨rfl, Nat.le_add_left _ _, Nat.le_of_ble_eq_true rfl⟩
theorem ldyZpX (b : Byte) : Statement (.ldyZpX b) := ⟨rfl, Nat.le_add_left _ _, Nat.le_of_ble_eq_true rfl⟩
theorem ldyAbs (w : Addr) : Statement (.ldyAbs w) := ⟨rfl, Nat.le_add_left _ _, Nat.le_of_ble_eq_true rfl⟩
theorem ldyAbsX (w : Addr) : Statement (.ldyAbsX w) := ⟨rfl, Nat.le_add_left _ _, Nat.le_of_ble_eq_true rfl⟩
theorem staZp (b : Byte) : Statement (.staZp b) := ⟨rfl, Nat.le_add_left _ _, Nat.le_of_ble_eq_true rfl⟩
theorem staZpX (b : Byte) : Statement (.staZpX b) := ⟨rfl, Nat.le_add_left _ _, Nat.le_of_ble_eq_true rfl⟩
theorem staAbs (w : Addr) : Statement (.staAbs w) := ⟨rfl, Nat.le_add_left _ _, Nat.le_of_ble_eq_true rfl⟩
theorem staAbsX (w : Addr) : Statement (.staAbsX w) := ⟨rfl, Nat.le_add_left _ _, Nat.le_of_ble_eq_true rfl⟩
theorem staAbsY (w : Addr) : Statement (.staAbsY w) := ⟨rfl, Nat.le_add_left _ _, Nat.le_of_ble_eq_true rfl⟩
theorem staIndX (b : Byte) : Statement (.staIndX b) := ⟨rfl, Nat.le_add_left _ _, Nat.le_of_ble_eq_true rfl⟩
theorem staIndY (b : Byte) : Statement (.staIndY b) := ⟨rfl, Nat.le_add_left _ _, Nat.le_of_ble_eq_true rfl⟩
theorem stxZp (b : Byte) : Statement (.stxZp b) := ⟨rfl, Nat.le_add_left _ _, Nat.le_of_ble_eq_true rfl⟩
theorem stxZpY (b : Byte) : Statement (.stxZpY b) := ⟨rfl, Nat.le_add_left _ _, Nat.le_of_ble_eq_true rfl⟩
theorem stxAbs (w : Addr) : Statement (.stxAbs w) := ⟨rfl, Nat.le_add_left _ _, Nat.le_of_ble_eq_true rfl⟩
theorem styZp (b : Byte) : Statement (.styZp b) := ⟨rfl, Nat.le_add_left _ _, Nat.le_of_ble_eq_true rfl⟩
theorem styZpX (b : Byte) : Statement (.styZpX b) := ⟨rfl, Nat.le_add_left _ _, Nat.le_of_ble_eq_true rfl⟩
theorem styAbs (w : Addr) : Statement (.styAbs w) := ⟨rfl, Nat.le_add_left _ _, Nat.le_of_ble_eq_true rfl⟩
theorem tax : Statement .tax := ⟨rfl, Nat.le_add_left _ _, Nat.le_of_ble_eq_true rfl⟩
theorem tay : Statement .tay := ⟨rfl, Nat.le_add_left _ _, Nat.le_of_ble_eq_true rfl⟩
theorem txa : Statement .txa := ⟨rfl, Nat.le_add_left _ _, Nat.le_of_ble_eq_true rfl⟩
theorem tya : Statement .tya := ⟨rfl, Nat.le_add_left _ _, Nat.le_of_ble_eq_true rfl⟩
theorem tsx : Statement .tsx := ⟨rfl, Nat.le_add_left _ _, Nat.le_of_ble_eq_true rfl⟩
theorem txs : Statement .txs := ⟨rfl, Nat.le_add_left _ _, Nat.le_of_ble_eq_true rfl⟩
theorem clc : Statement .clc := ⟨rfl, Nat.le_add_left _ _, Nat.le_of_ble_eq_true rfl⟩
theorem sec : Statement .sec := ⟨rfl, Nat.le_add_left _ _, Nat.le_of_ble_eq_true rfl⟩
theorem cli : Statement .cli := ⟨rfl, Nat.le_add_left _ _, Nat.le_of_ble_eq_true rfl⟩
theorem sei : Statement .sei := ⟨rfl, Nat.le_add_left _ _, Nat.le_of_ble_eq_true rfl⟩
theorem clv : Statement .clv := ⟨rfl, Nat.le_add_left _ _, Nat.le_of_ble_eq_true rfl⟩
theorem cld : Statement .cld := ⟨rfl, Nat.le_add_left _ _, Nat.le_of_ble_eq_true rfl⟩
theorem sed : Statement .sed := ⟨rfl, Nat.le_add_left _ _, Nat.le_of_ble_eq_true rfl⟩
theorem nop : Statement .nop := ⟨rfl, Nat.le_add_left _ _, Nat.le_of_ble_eq_true rfl⟩

end Sys2Proof.Laws.EncodedLength
end

