-- ==== Sys2Proof/Laws/Step.lean ====
section
/-! SUPPORT. What a step can do, said once. -/

namespace Sys2Proof.Machine

theorem step_halted {s : State} (h : s.halted = true) : step s = .next s := by simp [step, h]

theorem step_illegal {s : State} (h : s.halted = false) (hf : fetchInstr s = none) :
    step s = .next (s.raiseIllegal s.pc (fetchOpcode s)) := by simp [step, h, hf]

theorem step_exec {s : State} {i : Instr} (h : s.halted = false) (hf : fetchInstr s = some i) :
    step s = exec i s := by simp [step, h, hf]

/-- A step is one of three things (60_exceptions.md R311). -/
theorem step_cases (s : State) :
    (s.halted = true ∧ step s = .next s) ∨
    (s.halted = false ∧ fetchInstr s = none ∧ step s = .next (s.raiseIllegal s.pc (fetchOpcode s))) ∨
    (s.halted = false ∧ ∃ i, fetchInstr s = some i ∧ step s = exec i s) := by
  cases h : s.halted with
  | true => exact .inl ⟨rfl, step_halted h⟩
  | false =>
    cases hf : fetchInstr s with
    | none => exact .inr (.inl ⟨rfl, rfl, step_illegal h hf⟩)
    | some i => exact .inr (.inr ⟨rfl, i, rfl, step_exec h hf⟩)

/-- Every step completes. -/
theorem step_completes (s : State) : ∃ t, step s = .next t := by
  rcases step_cases s with ⟨_, h⟩ | ⟨_, _, h⟩ | ⟨_, i, _, h⟩
  · exact ⟨_, h⟩
  · exact ⟨_, h⟩
  · rw [h]
    exact exec_completes i s

/-- The step transaction is the step, and answers whether the core is halted after it (R100; log entry 5). -/
theorem transact_step {s t : State} (h : step s = .next t) : transact .step s = .next (t, .halted t.halted) := by
  unfold transact
  simp only [h]

/-- A run whose first step completes is the run from the next state. -/
theorem run_next (M : Host.Core) {s t : M.State} (n : Nat) (h : M.step s = .next t) :
    M.run (n + 1) s = M.run n t := by simp [Host.Core.run, h]

end Sys2Proof.Machine
end

