-- ==== Sys2Proof/Laws/Trap.lean ====
section
/-! SUPPORT. RTS on the stack BRK leaves (60_exceptions.md R305, last sentence; log entry 14). -/

namespace Sys2Proof.Machine

/-- The three cells and the SP that BRK leaves (46_control_transfer.md R213): P on top, then the low and the high byte of
pc0 + 2. -/
theorem brk_stack (s : State) : ∃ t, exec .brk s = .next t ∧ t.sp = s.sp - 3 ∧
    t.readByte (stackAddr (s.sp - 2)) = s.p ∧ t.readByte (stackAddr (s.sp - 1)) = lo (s.pc + 2) ∧
    t.readByte (stackAddr s.sp) = hi (s.pc + 2) := by
  have e : ∀ x : Byte, x - 1#8 - 1#8 = x - 2#8 ∧ x - 2#8 - 1#8 = x - 3#8 ∧ ¬ x = x - 1#8 ∧ ¬ x = x - 2#8 ∧
      ¬ x - 1#8 = x - 2#8 := by decide
  obtain ⟨e2, e3, n1, n2, n3⟩ := e s.sp
  refine ⟨_, rfl, ?_, ?_, ?_, ?_⟩ <;>
    simp [State.takeTrap_eq, State.readByte_push, State.readByte_push16, e2, e3, n1, n2, n3]

/-- RTS in place of RTI pulls P as the low byte and lo(pc0 + 2) as the high byte, continues at that word plus 1 and leaves
hi(pc0 + 2) on the stack: what R212 and R213 give. -/
theorem rts_after_brk (s : State) : ∃ t u, exec .brk s = .next t ∧ exec .rts t = .next u ∧
    u.pc = word (lo (s.pc + 2)) s.p + 1 ∧ u.sp = s.sp - 1 ∧ u.readByte (stackAddr s.sp) = hi (s.pc + 2) := by
  obtain ⟨t, ht, hsp, hp, hl, hh⟩ := brk_stack s
  have e : ∀ x : Byte, x - 3 + 1 = x - 2 ∧ x - 2 + 1 = x - 1 := by decide
  obtain ⟨e1, e2⟩ := e s.sp
  refine ⟨t, _, ht, rfl, ?_, ?_, hh⟩
  · show t.pull16.1 + 1 = _
    rw [State.pull16_eq, hsp, e1, e2, hp, hl]
  · show t.pull16.2.sp = _
    rw [State.pull16_eq, State.withSp_sp, hsp, e1, e2]

end Sys2Proof.Machine
end

