-- ==== Sys2Proof/Tests/Slice0.lean ====
section
/-! SUPPORT. Tests of the model and the witnesses of the statements. The words of the decode tests are read off the opcode
map of 30_encoding.md R86; the one-step tests are vectors of 95_test_vectors.md, each cited by its number. -/

namespace Sys2Proof.Tests

open Sys2Proof.Machine Sys2Proof.Claims

/-! ### Helpers -/

/-- The reset values with the given bytes at `pc` and the given cells: the start state of 95_test_vectors.md L2. -/
def start (pc : Addr) (bytes : List Byte) (cells : List (Addr × Byte)) : State :=
  { State.reset with
    pc := pc
    mem := placeBytes (cells.foldl (fun m c => m.write c.1.toNat c.2) Memory.erased) pc bytes }

/-- What a step leaves in one place, if it answers a next state. -/
def after {α : Type} (s : State) (look : State → α) : Option α :=
  match step s with
  | .next t => some (look t)
  | .fault _ => none
  | .refused _ => none

/-! ### Well-formedness refuses ill-formed bytes -/

/-- An opcode without an entry (R88). -/
theorem test_wf_refuses_unimplemented : wellFormedBytes [0x02] = false := by decide
/-- No bytes. -/
theorem test_wf_refuses_nothing : wellFormedBytes [] = false := by decide
/-- LDA # without its operand byte (R82). -/
theorem test_wf_refuses_short_immediate : wellFormedBytes [0xA9] = false := by decide
/-- LDA abs with one operand byte (R83). -/
theorem test_wf_refuses_short_absolute : wellFormedBytes [0xAD, 0x34] = false := by decide
/-- BRK with its padding byte: BRK is one byte (R84). -/
theorem test_wf_refuses_long_brk : wellFormedBytes [0x00, 0xEA] = false := by decide
/-- A zero-page form with a second operand byte (R84). -/
theorem test_wf_refuses_long_zero_page : wellFormedBytes [0x65, 0x10, 0x00] = false := by decide
/-- A whole instruction passes. -/
theorem test_wf_accepts_absolute : wellFormedBytes [0x8D, 0x00, 0x02] = true := by decide
/-- 151 opcodes and 105 without an entry (R85, R88). -/
theorem test_wf_opcode_lists : opcodesF1.length = 29 ∧ opcodesF2.length = 74 ∧ opcodesF3.length = 48 ∧
    unimplementedOpcodes.length = 105 := by decide

/-! ### The decoder rejects by name -/

theorem test_decode_no_bytes : decode [] = .error .noBytes := rfl
theorem test_decode_unimplemented : decode [0x9C, 0x00, 0x02] = .error (.unimplemented 0x9C) := rfl
theorem test_decode_truncated_two : decode [0xA9] = .error (.truncated 0xA9) := rfl
theorem test_decode_truncated_three : decode [0xAD, 0x34] = .error (.truncated 0xAD) := rfl

/-! ### Every constructor's word, from the opcode map (R86): operand byte 0x9A, operand word 0x3412 -/

theorem test_decode_adc :
    decode [0x61, 0x9A] = .ok (.adcIndX 0x9A, []) ∧
    decode [0x65, 0x9A] = .ok (.adcZp 0x9A, []) ∧
    decode [0x69, 0x9A] = .ok (.adcImm 0x9A, []) ∧
    decode [0x6D, 0x12, 0x34] = .ok (.adcAbs 0x3412, []) ∧
    decode [0x71, 0x9A] = .ok (.adcIndY 0x9A, []) ∧
    decode [0x75, 0x9A] = .ok (.adcZpX 0x9A, []) ∧
    decode [0x79, 0x12, 0x34] = .ok (.adcAbsY 0x3412, []) ∧
    decode [0x7D, 0x12, 0x34] = .ok (.adcAbsX 0x3412, []) :=
  ⟨rfl, rfl, rfl, rfl, rfl, rfl, rfl, rfl⟩
theorem test_decode_sbc :
    decode [0xE1, 0x9A] = .ok (.sbcIndX 0x9A, []) ∧
    decode [0xE5, 0x9A] = .ok (.sbcZp 0x9A, []) ∧
    decode [0xE9, 0x9A] = .ok (.sbcImm 0x9A, []) ∧
    decode [0xED, 0x12, 0x34] = .ok (.sbcAbs 0x3412, []) ∧
    decode [0xF1, 0x9A] = .ok (.sbcIndY 0x9A, []) ∧
    decode [0xF5, 0x9A] = .ok (.sbcZpX 0x9A, []) ∧
    decode [0xF9, 0x12, 0x34] = .ok (.sbcAbsY 0x3412, []) ∧
    decode [0xFD, 0x12, 0x34] = .ok (.sbcAbsX 0x3412, []) :=
  ⟨rfl, rfl, rfl, rfl, rfl, rfl, rfl, rfl⟩
theorem test_decode_and :
    decode [0x21, 0x9A] = .ok (.andIndX 0x9A, []) ∧
    decode [0x25, 0x9A] = .ok (.andZp 0x9A, []) ∧
    decode [0x29, 0x9A] = .ok (.andImm 0x9A, []) ∧
    decode [0x2D, 0x12, 0x34] = .ok (.andAbs 0x3412, []) ∧
    decode [0x31, 0x9A] = .ok (.andIndY 0x9A, []) ∧
    decode [0x35, 0x9A] = .ok (.andZpX 0x9A, []) ∧
    decode [0x39, 0x12, 0x34] = .ok (.andAbsY 0x3412, []) ∧
    decode [0x3D, 0x12, 0x34] = .ok (.andAbsX 0x3412, []) :=
  ⟨rfl, rfl, rfl, rfl, rfl, rfl, rfl, rfl⟩
theorem test_decode_ora :
    decode [0x01, 0x9A] = .ok (.oraIndX 0x9A, []) ∧
    decode [0x05, 0x9A] = .ok (.oraZp 0x9A, []) ∧
    decode [0x09, 0x9A] = .ok (.oraImm 0x9A, []) ∧
    decode [0x0D, 0x12, 0x34] = .ok (.oraAbs 0x3412, []) ∧
    decode [0x11, 0x9A] = .ok (.oraIndY 0x9A, []) ∧
    decode [0x15, 0x9A] = .ok (.oraZpX 0x9A, []) ∧
    decode [0x19, 0x12, 0x34] = .ok (.oraAbsY 0x3412, []) ∧
    decode [0x1D, 0x12, 0x34] = .ok (.oraAbsX 0x3412, []) :=
  ⟨rfl, rfl, rfl, rfl, rfl, rfl, rfl, rfl⟩
theorem test_decode_eor :
    decode [0x41, 0x9A] = .ok (.eorIndX 0x9A, []) ∧
    decode [0x45, 0x9A] = .ok (.eorZp 0x9A, []) ∧
    decode [0x49, 0x9A] = .ok (.eorImm 0x9A, []) ∧
    decode [0x4D, 0x12, 0x34] = .ok (.eorAbs 0x3412, []) ∧
    decode [0x51, 0x9A] = .ok (.eorIndY 0x9A, []) ∧
    decode [0x55, 0x9A] = .ok (.eorZpX 0x9A, []) ∧
    decode [0x59, 0x12, 0x34] = .ok (.eorAbsY 0x3412, []) ∧
    decode [0x5D, 0x12, 0x34] = .ok (.eorAbsX 0x3412, []) :=
  ⟨rfl, rfl, rfl, rfl, rfl, rfl, rfl, rfl⟩
theorem test_decode_cmp :
    decode [0xC1, 0x9A] = .ok (.cmpIndX 0x9A, []) ∧
    decode [0xC5, 0x9A] = .ok (.cmpZp 0x9A, []) ∧
    decode [0xC9, 0x9A] = .ok (.cmpImm 0x9A, []) ∧
    decode [0xCD, 0x12, 0x34] = .ok (.cmpAbs 0x3412, []) ∧
    decode [0xD1, 0x9A] = .ok (.cmpIndY 0x9A, []) ∧
    decode [0xD5, 0x9A] = .ok (.cmpZpX 0x9A, []) ∧
    decode [0xD9, 0x12, 0x34] = .ok (.cmpAbsY 0x3412, []) ∧
    decode [0xDD, 0x12, 0x34] = .ok (.cmpAbsX 0x3412, []) :=
  ⟨rfl, rfl, rfl, rfl, rfl, rfl, rfl, rfl⟩
theorem test_decode_cpx :
    decode [0xE0, 0x9A] = .ok (.cpxImm 0x9A, []) ∧
    decode [0xE4, 0x9A] = .ok (.cpxZp 0x9A, []) ∧
    decode [0xEC, 0x12, 0x34] = .ok (.cpxAbs 0x3412, []) :=
  ⟨rfl, rfl, rfl⟩
theorem test_decode_cpy :
    decode [0xC0, 0x9A] = .ok (.cpyImm 0x9A, []) ∧
    decode [0xC4, 0x9A] = .ok (.cpyZp 0x9A, []) ∧
    decode [0xCC, 0x12, 0x34] = .ok (.cpyAbs 0x3412, []) :=
  ⟨rfl, rfl, rfl⟩
theorem test_decode_bit :
    decode [0x24, 0x9A] = .ok (.bitZp 0x9A, []) ∧
    decode [0x2C, 0x12, 0x34] = .ok (.bitAbs 0x3412, []) :=
  ⟨rfl, rfl⟩
theorem test_decode_asl :
    decode [0x06, 0x9A] = .ok (.aslZp 0x9A, []) ∧
    decode [0x0A] = .ok (.aslAcc, []) ∧
    decode [0x0E, 0x12, 0x34] = .ok (.aslAbs 0x3412, []) ∧
    decode [0x16, 0x9A] = .ok (.aslZpX 0x9A, []) ∧
    decode [0x1E, 0x12, 0x34] = .ok (.aslAbsX 0x3412, []) :=
  ⟨rfl, rfl, rfl, rfl, rfl⟩
theorem test_decode_lsr :
    decode [0x46, 0x9A] = .ok (.lsrZp 0x9A, []) ∧
    decode [0x4A] = .ok (.lsrAcc, []) ∧
    decode [0x4E, 0x12, 0x34] = .ok (.lsrAbs 0x3412, []) ∧
    decode [0x56, 0x9A] = .ok (.lsrZpX 0x9A, []) ∧
    decode [0x5E, 0x12, 0x34] = .ok (.lsrAbsX 0x3412, []) :=
  ⟨rfl, rfl, rfl, rfl, rfl⟩
theorem test_decode_rol :
    decode [0x26, 0x9A] = .ok (.rolZp 0x9A, []) ∧
    decode [0x2A] = .ok (.rolAcc, []) ∧
    decode [0x2E, 0x12, 0x34] = .ok (.rolAbs 0x3412, []) ∧
    decode [0x36, 0x9A] = .ok (.rolZpX 0x9A, []) ∧
    decode [0x3E, 0x12, 0x34] = .ok (.rolAbsX 0x3412, []) :=
  ⟨rfl, rfl, rfl, rfl, rfl⟩
theorem test_decode_ror :
    decode [0x66, 0x9A] = .ok (.rorZp 0x9A, []) ∧
    decode [0x6A] = .ok (.rorAcc, []) ∧
    decode [0x6E, 0x12, 0x34] = .ok (.rorAbs 0x3412, []) ∧
    decode [0x76, 0x9A] = .ok (.rorZpX 0x9A, []) ∧
    decode [0x7E, 0x12, 0x34] = .ok (.rorAbsX 0x3412, []) :=
  ⟨rfl, rfl, rfl, rfl, rfl⟩
theorem test_decode_inc :
    decode [0xE6, 0x9A] = .ok (.incZp 0x9A, []) ∧
    decode [0xEE, 0x12, 0x34] = .ok (.incAbs 0x3412, []) ∧
    decode [0xF6, 0x9A] = .ok (.incZpX 0x9A, []) ∧
    decode [0xFE, 0x12, 0x34] = .ok (.incAbsX 0x3412, []) :=
  ⟨rfl, rfl, rfl, rfl⟩
theorem test_decode_dec :
    decode [0xC6, 0x9A] = .ok (.decZp 0x9A, []) ∧
    decode [0xCE, 0x12, 0x34] = .ok (.decAbs 0x3412, []) ∧
    decode [0xD6, 0x9A] = .ok (.decZpX 0x9A, []) ∧
    decode [0xDE, 0x12, 0x34] = .ok (.decAbsX 0x3412, []) :=
  ⟨rfl, rfl, rfl, rfl⟩
theorem test_decode_shift_inc_dec_single_mode :
    decode [0xE8] = .ok (.inx, []) ∧
    decode [0xC8] = .ok (.iny, []) ∧
    decode [0xCA] = .ok (.dex, []) ∧
    decode [0x88] = .ok (.dey, []) :=
  ⟨rfl, rfl, rfl, rfl⟩
theorem test_decode_branches_single_mode :
    decode [0x10, 0x9A] = .ok (.bpl 0x9A, []) ∧
    decode [0x30, 0x9A] = .ok (.bmi 0x9A, []) ∧
    decode [0x50, 0x9A] = .ok (.bvc 0x9A, []) ∧
    decode [0x70, 0x9A] = .ok (.bvs 0x9A, []) ∧
    decode [0x90, 0x9A] = .ok (.bcc 0x9A, []) ∧
    decode [0xB0, 0x9A] = .ok (.bcs 0x9A, []) ∧
    decode [0xD0, 0x9A] = .ok (.bne 0x9A, []) ∧
    decode [0xF0, 0x9A] = .ok (.beq 0x9A, []) :=
  ⟨rfl, rfl, rfl, rfl, rfl, rfl, rfl, rfl⟩
theorem test_decode_stack_single_mode :
    decode [0x48] = .ok (.pha, []) ∧
    decode [0x08] = .ok (.php, []) ∧
    decode [0x68] = .ok (.pla, []) ∧
    decode [0x28] = .ok (.plp, []) :=
  ⟨rfl, rfl, rfl, rfl⟩
theorem test_decode_jmp :
    decode [0x4C, 0x12, 0x34] = .ok (.jmpAbs 0x3412, []) ∧
    decode [0x6C, 0x12, 0x34] = .ok (.jmpInd 0x3412, []) :=
  ⟨rfl, rfl⟩
theorem test_decode_control_transfer_single_mode :
    decode [0x20, 0x12, 0x34] = .ok (.jsr 0x3412, []) ∧
    decode [0x60] = .ok (.rts, []) ∧
    decode [0x00] = .ok (.brk, []) ∧
    decode [0x40] = .ok (.rti, []) :=
  ⟨rfl, rfl, rfl, rfl⟩
theorem test_decode_lda :
    decode [0xA1, 0x9A] = .ok (.ldaIndX 0x9A, []) ∧
    decode [0xA5, 0x9A] = .ok (.ldaZp 0x9A, []) ∧
    decode [0xA9, 0x9A] = .ok (.ldaImm 0x9A, []) ∧
    decode [0xAD, 0x12, 0x34] = .ok (.ldaAbs 0x3412, []) ∧
    decode [0xB1, 0x9A] = .ok (.ldaIndY 0x9A, []) ∧
    decode [0xB5, 0x9A] = .ok (.ldaZpX 0x9A, []) ∧
    decode [0xB9, 0x12, 0x34] = .ok (.ldaAbsY 0x3412, []) ∧
    decode [0xBD, 0x12, 0x34] = .ok (.ldaAbsX 0x3412, []) :=
  ⟨rfl, rfl, rfl, rfl, rfl, rfl, rfl, rfl⟩
theorem test_decode_ldx :
    decode [0xA2, 0x9A] = .ok (.ldxImm 0x9A, []) ∧
    decode [0xA6, 0x9A] = .ok (.ldxZp 0x9A, []) ∧
    decode [0xAE, 0x12, 0x34] = .ok (.ldxAbs 0x3412, []) ∧
    decode [0xB6, 0x9A] = .ok (.ldxZpY 0x9A, []) ∧
    decode [0xBE, 0x12, 0x34] = .ok (.ldxAbsY 0x3412, []) :=
  ⟨rfl, rfl, rfl, rfl, rfl⟩
theorem test_decode_ldy :
    decode [0xA0, 0x9A] = .ok (.ldyImm 0x9A, []) ∧
    decode [0xA4, 0x9A] = .ok (.ldyZp 0x9A, []) ∧
    decode [0xAC, 0x12, 0x34] = .ok (.ldyAbs 0x3412, []) ∧
    decode [0xB4, 0x9A] = .ok (.ldyZpX 0x9A, []) ∧
    decode [0xBC, 0x12, 0x34] = .ok (.ldyAbsX 0x3412, []) :=
  ⟨rfl, rfl, rfl, rfl, rfl⟩
theorem test_decode_sta :
    decode [0x81, 0x9A] = .ok (.staIndX 0x9A, []) ∧
    decode [0x85, 0x9A] = .ok (.staZp 0x9A, []) ∧
    decode [0x8D, 0x12, 0x34] = .ok (.staAbs 0x3412, []) ∧
    decode [0x91, 0x9A] = .ok (.staIndY 0x9A, []) ∧
    decode [0x95, 0x9A] = .ok (.staZpX 0x9A, []) ∧
    decode [0x99, 0x12, 0x34] = .ok (.staAbsY 0x3412, []) ∧
    decode [0x9D, 0x12, 0x34] = .ok (.staAbsX 0x3412, []) :=
  ⟨rfl, rfl, rfl, rfl, rfl, rfl, rfl⟩
theorem test_decode_stx :
    decode [0x86, 0x9A] = .ok (.stxZp 0x9A, []) ∧
    decode [0x8E, 0x12, 0x34] = .ok (.stxAbs 0x3412, []) ∧
    decode [0x96, 0x9A] = .ok (.stxZpY 0x9A, []) :=
  ⟨rfl, rfl, rfl⟩
theorem test_decode_sty :
    decode [0x84, 0x9A] = .ok (.styZp 0x9A, []) ∧
    decode [0x8C, 0x12, 0x34] = .ok (.styAbs 0x3412, []) ∧
    decode [0x94, 0x9A] = .ok (.styZpX 0x9A, []) :=
  ⟨rfl, rfl, rfl⟩
theorem test_decode_transfer_flag_single_mode :
    decode [0xAA] = .ok (.tax, []) ∧
    decode [0xA8] = .ok (.tay, []) ∧
    decode [0x8A] = .ok (.txa, []) ∧
    decode [0x98] = .ok (.tya, []) ∧
    decode [0xBA] = .ok (.tsx, []) ∧
    decode [0x9A] = .ok (.txs, []) ∧
    decode [0x18] = .ok (.clc, []) ∧
    decode [0x38] = .ok (.sec, []) ∧
    decode [0x58] = .ok (.cli, []) ∧
    decode [0x78] = .ok (.sei, []) ∧
    decode [0xB8] = .ok (.clv, []) ∧
    decode [0xD8] = .ok (.cld, []) ∧
    decode [0xF8] = .ok (.sed, []) ∧
    decode [0xEA] = .ok (.nop, []) :=
  ⟨rfl, rfl, rfl, rfl, rfl, rfl, rfl, rfl, rfl, rfl, rfl, rfl, rfl, rfl⟩

/-! ### One step: vectors of 95_test_vectors.md -/

/-- V1: A1 zp. -/
theorem test_lda_zp :
    after (start 0x0300 [0xA5, 0x10] [(0x0010, 0x5A)])
      (fun t => (t.ac, t.cyc)) = some (0x5A, 3) := by decide
/-- V2: A2 zp,X wrap. -/
theorem test_lda_zpx_wraps :
    after { start 0x0300 [0xB5, 0xF0] [(0x0010, 0x77)] with ix := 0x20 }
      (fun t => t.ac) = some 0x77 := by decide
/-- V3: A3 zp,Y (LDX) wrap. -/
theorem test_ldx_zpy_wraps :
    after { start 0x0300 [0xB6, 0xFF] [(0x0001, 0x33)] with iy := 0x02 }
      (fun t => t.ix) = some 0x33 := by decide
/-- V4: A4 abs. -/
theorem test_lda_abs :
    after (start 0x0300 [0xAD, 0x34, 0x12] [(0x1234, 0x01)])
      (fun t => (t.ac, t.pc)) = some (0x01, 0x0303) := by decide
/-- V5: A5 abs,X no cross. -/
theorem test_lda_absx_same_page :
    after { start 0x0300 [0xBD, 0x00, 0x04] [(0x0401, 0x11)] with ix := 0x01 }
      (fun t => (t.ac, t.cyc)) = some (0x11, 4) := by decide
/-- V6: A6 abs,X cross. -/
theorem test_lda_absx_crosses :
    after { start 0x0300 [0xBD, 0xFF, 0x04] [(0x0500, 0x22)] with ix := 0x01 }
      (fun t => (t.ac, t.cyc)) = some (0x22, 5) := by decide
/-- V7: A7 abs,Y wrap 0xFFFF. -/
theorem test_lda_absy_wraps :
    after { start 0x0300 [0xB9, 0xFF, 0xFF] [(0x0000, 0x80)] with iy := 0x01 }
      (fun t => (t.ac, t.cyc)) = some (0x80, 5) := by decide
/-- V8: A8 (zp,X). -/
theorem test_lda_indx :
    after { start 0x0300 [0xA1, 0x20] [(0x0024, 0x00), (0x0025, 0x05), (0x0500, 0x99)] with ix := 0x04 }
      (fun t => (t.ac, t.cyc)) = some (0x99, 6) := by decide
/-- V9: A9 (zp,X) ptr 0xFF no wrap. -/
theorem test_lda_indx_pointer_ff :
    after { start 0x0300 [0xA1, 0xFE] [(0x0000, 0x56), (0x00FF, 0x34), (0x0100, 0x12), (0x1234, 0xAB), (0x5634, 0xCD)] with ix := 0x01 }
      (fun t => t.ac) = some 0xAB := by decide
/-- V11: A11 (zp),Y cross. -/
theorem test_lda_indy_crosses :
    after { start 0x0300 [0xB1, 0x40] [(0x0040, 0xFF), (0x0041, 0x06), (0x0701, 0x45)] with iy := 0x02 }
      (fun t => (t.ac, t.cyc)) = some (0x45, 6) := by decide
/-- V12: A12 (zp),Y ptr 0xFF no wrap. -/
theorem test_lda_indy_pointer_ff :
    after (start 0x0300 [0xB1, 0xFF] [(0x00FF, 0x00), (0x0100, 0x07), (0x0700, 0x46)])
      (fun t => (t.ac, t.cyc)) = some (0x46, 5) := by decide
/-- V13: A13 STA abs,X no cross. -/
theorem test_sta_absx_same_page :
    after { start 0x0300 [0x9D, 0x00, 0x04] [] with ac := 0x42, ix := 0x01 }
      (fun t => (t.readByte 0x0401, t.cyc)) = some (0x42, 5) := by decide
/-- V14: A14 STA abs,X cross. -/
theorem test_sta_absx_crosses :
    after { start 0x0300 [0x9D, 0xFF, 0x04] [] with ac := 0x42, ix := 0x01 }
      (fun t => (t.readByte 0x0500, t.cyc)) = some (0x42, 5) := by decide
/-- V15: A15 STA (zp),Y no cross. -/
theorem test_sta_indy :
    after { start 0x0300 [0x91, 0x40] [(0x0040, 0x00), (0x0041, 0x06)] with ac := 0x42, iy := 0x01 }
      (fun t => (t.readByte 0x0601, t.cyc)) = some (0x42, 6) := by decide
/-- V16: A16 JMP (ind) no page wrap. -/
theorem test_jmp_ind_no_page_wrap :
    after (start 0x0300 [0x6C, 0xFF, 0x12] [(0x1200, 0x80), (0x12FF, 0x00), (0x1300, 0x90)])
      (fun t => (t.pc, t.cyc)) = some (0x9000, 5) := by decide
/-- V17: A17 JMP (ind) at 0xFFFF. -/
theorem test_jmp_ind_top :
    after (start 0x0300 [0x6C, 0xFF, 0xFF] [(0x0000, 0x12), (0xFFFF, 0x34)])
      (fun t => t.pc) = some 0x1234 := by decide
/-- V21: ADC D=0 7F+00 c1. -/
theorem test_adc_carry_overflow :
    after { start 0x0300 [0x69, 0x00] [] with ac := 0x7F, p := 0x31 }
      (fun t => (t.ac, t.p)) = some (0x80, 0xF0) := by decide
/-- V27: ADC D=1 99+01 c0. -/
theorem test_adc_decimal :
    after { start 0x0300 [0x69, 0x01] [] with ac := 0x99, p := 0x38 }
      (fun t => (t.ac, t.p)) = some (0x00, 0xB9) := by decide
/-- V39: SBC D=0 80-01 c1. -/
theorem test_sbc_overflow :
    after { start 0x0300 [0xE9, 0x01] [] with ac := 0x80, p := 0x31 }
      (fun t => (t.ac, t.p)) = some (0x7F, 0x71) := by decide
/-- V51: SBC D=1 10-0F c1. -/
theorem test_sbc_decimal_invalid :
    after { start 0x0300 [0xE9, 0x0F] [] with ac := 0x10, p := 0x39 }
      (fun t => (t.ac, t.p)) = some (0x9B, 0x38) := by decide
/-- V52: AND. -/
theorem test_and :
    after { start 0x0300 [0x29, 0x0F] [] with ac := 0xF0 }
      (fun t => (t.ac, t.p)) = some (0x00, 0x32) := by decide
/-- V57: ORA V/C kept. -/
theorem test_ora_keeps_v_c :
    after { start 0x0300 [0x09, 0x00] [] with p := 0x71 }
      (fun t => (t.ac, t.p)) = some (0x00, 0x73) := by decide
/-- V55: EOR self-zero. -/
theorem test_eor :
    after { start 0x0300 [0x49, 0xFF] [] with ac := 0xFF }
      (fun t => (t.ac, t.p)) = some (0x00, 0x32) := by decide
/-- V60: CMP gt, N from diff. -/
theorem test_cmp_n_from_difference :
    after { start 0x0300 [0xC9, 0x00] [] with ac := 0x80 }
      (fun t => t.p) = some 0xB1 := by decide
/-- V61: CMP V kept. -/
theorem test_cmp_keeps_v :
    after { start 0x0300 [0xC9, 0x10] [] with ac := 0x20, p := 0x70 }
      (fun t => t.p) = some 0x71 := by decide
/-- V62: CPX. -/
theorem test_cpx :
    after { start 0x0300 [0xE0, 0x0A] [] with ix := 0x05 }
      (fun t => t.p) = some 0xB0 := by decide
/-- V63: CPY. -/
theorem test_cpy :
    after { start 0x0300 [0xC0, 0x00] [] with iy := 0xFF }
      (fun t => t.p) = some 0xB1 := by decide
/-- V65: BIT zp. -/
theorem test_bit_zp :
    after { start 0x0300 [0x24, 0x10] [(0x0010, 0xC0)] with ac := 0x01 }
      (fun t => (t.p, t.ac)) = some (0xF2, 0x01) := by decide
/-- V66: BIT nonzero. -/
theorem test_bit_abs :
    after { start 0x0300 [0x2C, 0x00, 0x02] [(0x0200, 0x3F)] with ac := 0x0F, p := 0x31 }
      (fun t => t.p) = some 0x31 := by decide
/-- V67: ASL A. -/
theorem test_asl_acc :
    after { start 0x0300 [0x0A] [] with ac := 0x81 }
      (fun t => (t.ac, t.p)) = some (0x02, 0x31) := by decide
/-- V78: ASL ROM discarded. -/
theorem test_asl_rom_discarded :
    after (start 0x0300 [0x0E, 0x00, 0x90] [(0x9000, 0x80)])
      (fun t => (t.p, t.readByte 0x9000)) = some (0x33, 0x80) := by decide
/-- V69: LSR zp. -/
theorem test_lsr_zp :
    after (start 0x0300 [0x46, 0x10] [(0x0010, 0x03)])
      (fun t => (t.readByte 0x0010, t.p)) = some (0x01, 0x31) := by decide
/-- V70: LSR A to zero. -/
theorem test_lsr_acc :
    after { start 0x0300 [0x4A] [] with ac := 0x01 }
      (fun t => (t.ac, t.p)) = some (0x00, 0x33) := by decide
/-- V71: ROL A c1. -/
theorem test_rol_acc_carry_in :
    after { start 0x0300 [0x2A] [] with ac := 0x40, p := 0x31 }
      (fun t => (t.ac, t.p)) = some (0x81, 0xB0) := by decide
/-- V72: ROL A c0 to zero. -/
theorem test_rol_acc_zero :
    after { start 0x0300 [0x2A] [] with ac := 0x80 }
      (fun t => (t.ac, t.p)) = some (0x00, 0x33) := by decide
/-- V73: ROR A c1. -/
theorem test_ror_acc :
    after { start 0x0300 [0x6A] [] with ac := 0x01, p := 0x31 }
      (fun t => (t.ac, t.p)) = some (0x80, 0xB1) := by decide
/-- V75: ROR abs,X c1, no penalty on cross. -/
theorem test_ror_absx_fixed_cost :
    after { start 0x0300 [0x7E, 0xFF, 0x03] [(0x0400, 0x02)] with ix := 0x01, p := 0x31 }
      (fun t => (t.readByte 0x0400, t.cyc)) = some (0x81, 7) := by decide
/-- V76: INC zp wrap. -/
theorem test_inc_zp_keeps_c :
    after { start 0x0300 [0xE6, 0x10] [(0x0010, 0xFF)] with p := 0x31 }
      (fun t => (t.readByte 0x0010, t.p)) = some (0x00, 0x33) := by decide
/-- V77: INC ROM discarded. -/
theorem test_inc_rom_discarded :
    after (start 0x0300 [0xEE, 0x01, 0x80] [(0x8001, 0x7F)])
      (fun t => (t.p, t.readByte 0x8001)) = some (0xB0, 0x7F) := by decide
/-- V79: DEC abs. -/
theorem test_dec_abs :
    after (start 0x0400 [0xCE, 0x00, 0x03] [(0x0300, 0x01)])
      (fun t => (t.readByte 0x0300, t.p)) = some (0x00, 0x32) := by decide
/-- V80: DEC zp to FF. -/
theorem test_dec_zp :
    after (start 0x0300 [0xC6, 0x10] [(0x0010, 0x00)])
      (fun t => (t.readByte 0x0010, t.p)) = some (0xFF, 0xB0) := by decide
/-- V81: INX wrap. -/
theorem test_inx_wraps :
    after { start 0x0300 [0xE8] [] with ix := 0xFF }
      (fun t => (t.ix, t.p)) = some (0x00, 0x32) := by decide
/-- V82: INY. -/
theorem test_iny :
    after { start 0x0300 [0xC8] [] with iy := 0x7F }
      (fun t => (t.iy, t.p)) = some (0x80, 0xB0) := by decide
/-- V83: DEX. -/
theorem test_dex_wraps :
    after (start 0x0300 [0xCA] [])
      (fun t => (t.ix, t.p)) = some (0xFF, 0xB0) := by decide
/-- V84: DEY. -/
theorem test_dey :
    after { start 0x0300 [0x88] [] with iy := 0x01 }
      (fun t => (t.iy, t.p)) = some (0x00, 0x32) := by decide
/-- V85: BPL taken same page. -/
theorem test_bpl_taken :
    after (start 0x0300 [0x10, 0x05] [])
      (fun t => (t.pc, t.cyc)) = some (0x0307, 3) := by decide
/-- V86: BMI not taken. -/
theorem test_bmi_not_taken :
    after (start 0x0300 [0x30, 0x05] [])
      (fun t => (t.pc, t.cyc)) = some (0x0302, 2) := by decide
/-- V87: BVC taken cross. -/
theorem test_bvc_crosses :
    after (start 0x03F0 [0x50, 0x20] [])
      (fun t => (t.pc, t.cyc)) = some (0x0412, 4) := by decide
/-- V88: BVS taken back. -/
theorem test_bvs_back :
    after { start 0x0310 [0x70, 0xF0] [] with p := 0x70 }
      (fun t => (t.pc, t.cyc)) = some (0x0302, 3) := by decide
/-- V94: BCC not taken, would cross. -/
theorem test_bcc_not_taken :
    after { start 0x03F0 [0x90, 0x7F] [] with p := 0x31 }
      (fun t => (t.pc, t.cyc)) = some (0x03F2, 2) := by decide
/-- V90: BCS back cross. -/
theorem test_bcs_back_crosses :
    after { start 0x0400 [0xB0, 0x80] [] with p := 0x31 }
      (fun t => (t.pc, t.cyc)) = some (0x0382, 4) := by decide
/-- V91: BNE back. -/
theorem test_bne_back :
    after (start 0x0305 [0xD0, 0xFB] [])
      (fun t => (t.pc, t.cyc)) = some (0x0302, 3) := by decide
/-- V92: BEQ self loop. -/
theorem test_beq_self :
    after { start 0x0300 [0xF0, 0xFE] [] with p := 0x32 }
      (fun t => (t.pc, t.cyc)) = some (0x0300, 3) := by decide
/-- V95: BEQ +127 cross from next. -/
theorem test_beq_page_of_next :
    after { start 0x0380 [0xF0, 0x7F] [] with p := 0x32 }
      (fun t => (t.pc, t.cyc)) = some (0x0401, 4) := by decide
/-- V97: PHA at SP=00 wraps. -/
theorem test_pha_wraps :
    after { start 0x0300 [0x48] [] with ac := 0x42, sp := 0x00 }
      (fun t => (t.readByte 0x0100, t.sp)) = some (0x42, 0xFF) := by decide
/-- V98: PHP. -/
theorem test_php :
    after { start 0x0300 [0x08] [] with p := 0x31 }
      (fun t => (t.readByte 0x01FF, t.sp)) = some (0x31, 0xFE) := by decide
/-- V99: PLA. -/
theorem test_pla_sets_n :
    after { start 0x0300 [0x68] [(0x01FF, 0x80)] with sp := 0xFE }
      (fun t => (t.ac, t.p)) = some (0x80, 0xB0) := by decide
/-- V101: PLA at SP=FF wraps. -/
theorem test_pla_wraps :
    after (start 0x0300 [0x68] [(0x0100, 0x01)])
      (fun t => (t.ac, t.sp)) = some (0x01, 0x00) := by decide
/-- V102: PLP pull invariant 00. -/
theorem test_plp_forces_u_b :
    after { start 0x0300 [0x28] [(0x01FF, 0x00)] with sp := 0xFE }
      (fun t => t.p) = some 0x30 := by decide
/-- V103: PLP C3. -/
theorem test_plp :
    after { start 0x0300 [0x28] [(0x01FF, 0xC3)] with sp := 0xFE }
      (fun t => (t.p, t.sp)) = some (0xF3, 0xFF) := by decide
/-- V104: JMP abs. -/
theorem test_jmp_abs :
    after (start 0x0300 [0x4C, 0x00, 0x90] [])
      (fun t => (t.pc, t.cyc)) = some (0x9000, 3) := by decide
/-- V105: JSR. -/
theorem test_jsr_pushes_high_first :
    after (start 0x0300 [0x20, 0x00, 0x90] [])
      (fun t => (t.readByte 0x01FF, t.readByte 0x01FE)) = some (0x03, 0x02) := by decide
/-- V106: JSR at 0xFFFE pushes 0000. -/
theorem test_jsr_at_top :
    after (start 0xFFFE [0x20, 0x00, 0x90] [])
      (fun t => (t.readByte 0x01FF, t.readByte 0x01FE)) = some (0x00, 0x00) := by decide
/-- V107: RTS. -/
theorem test_rts :
    after { start 0x0300 [0x60] [(0x01FE, 0x02), (0x01FF, 0x80)] with sp := 0xFD }
      (fun t => (t.pc, t.sp)) = some (0x8003, 0xFF) := by decide
/-- V108: RTS from FFFF. -/
theorem test_rts_wraps :
    after { start 0x0300 [0x60] [(0x01FE, 0xFF), (0x01FF, 0xFF)] with sp := 0xFD }
      (fun t => t.pc) = some 0x0000 := by decide
/-- V109: BRK. -/
theorem test_brk_enters :
    after (start 0x0300 [0x00] [(0xFFFE, 0x00), (0xFFFF, 0x90)])
      (fun t => (t.pc, t.p)) = some (0x9000, 0x34) := by decide
/-- V110: BRK with I=1, D=1. -/
theorem test_brk_saves_p :
    after { start 0x0300 [0x00] [(0xFFFE, 0x00), (0xFFFF, 0x90)] with p := 0x3C }
      (fun t => (t.readByte 0x01FD, t.sp)) = some (0x3C, 0xFC) := by decide
/-- V112: RTI. -/
theorem test_rti :
    after { start 0x0300 [0x40] [(0x01FD, 0x30), (0x01FE, 0x02), (0x01FF, 0x03)] with sp := 0xFC, p := 0x34 }
      (fun t => (t.pc, t.p)) = some (0x0302, 0x30) := by decide
/-- V113: RTI pull invariant. -/
theorem test_rti_forces_u_b :
    after { start 0x0300 [0x40] [(0x01FD, 0xCF), (0x01FE, 0x00), (0x01FF, 0x04)] with sp := 0xFC, p := 0x34 }
      (fun t => (t.pc, t.p)) = some (0x0400, 0xFF) := by decide
/-- V114: LDA #00. -/
theorem test_lda_imm :
    after { start 0x0300 [0xA9, 0x00] [] with ac := 0x55 }
      (fun t => (t.ac, t.p)) = some (0x00, 0x32) := by decide
/-- V116: LDX #FF. -/
theorem test_ldx_imm :
    after (start 0x0300 [0xA2, 0xFF] [])
      (fun t => (t.ix, t.p)) = some (0xFF, 0xB0) := by decide
/-- V117: LDY #00. -/
theorem test_ldy_imm :
    after { start 0x0300 [0xA0, 0x00] [] with iy := 0x12 }
      (fun t => (t.iy, t.p)) = some (0x00, 0x32) := by decide
/-- V118: STA abs. -/
theorem test_sta_abs_no_flags :
    after { start 0x0300 [0x8D, 0x00, 0x02] [] with ac := 0x42, p := 0xB3 }
      (fun t => (t.readByte 0x0200, t.p)) = some (0x42, 0xB3) := by decide
/-- V119: STA ROM discarded. -/
theorem test_sta_rom_discarded :
    after { start 0x0300 [0x8D, 0x00, 0x80] [] with ac := 0x42 }
      (fun t => (t.readByte 0x8000, t.pc)) = some (0xFF, 0x0303) := by decide
/-- V120: STX zp. -/
theorem test_stx_zp :
    after { start 0x0300 [0x86, 0x10] [] with ix := 0x07 }
      (fun t => t.readByte 0x0010) = some 0x07 := by decide
/-- V121: STY zp,X wrap. -/
theorem test_sty_zpx_wraps :
    after { start 0x0300 [0x94, 0xFF] [] with ix := 0x01, iy := 0x09 }
      (fun t => t.readByte 0x0000) = some 0x09 := by decide
/-- V122: TAX. -/
theorem test_tax :
    after { start 0x0300 [0xAA] [] with ac := 0x80 }
      (fun t => (t.ix, t.p)) = some (0x80, 0xB0) := by decide
/-- V123: TAY zero. -/
theorem test_tay :
    after { start 0x0300 [0xA8] [] with iy := 0x05 }
      (fun t => (t.iy, t.p)) = some (0x00, 0x32) := by decide
/-- V124: TXA. -/
theorem test_txa :
    after { start 0x0300 [0x8A] [] with ix := 0x01 }
      (fun t => (t.ac, t.p)) = some (0x01, 0x30) := by decide
/-- V125: TYA. -/
theorem test_tya :
    after { start 0x0300 [0x98] [] with iy := 0xFE }
      (fun t => (t.ac, t.p)) = some (0xFE, 0xB0) := by decide
/-- V126: TSX. -/
theorem test_tsx :
    after { start 0x0300 [0xBA] [] with sp := 0xFD }
      (fun t => (t.ix, t.p)) = some (0xFD, 0xB0) := by decide
/-- V127: TXS no flags. -/
theorem test_txs_no_flags :
    after (start 0x0300 [0x9A] [])
      (fun t => (t.sp, t.p)) = some (0x00, 0x30) := by decide
/-- V128: CLC. -/
theorem test_clc :
    after { start 0x0300 [0x18] [] with p := 0x31 }
      (fun t => t.p) = some 0x30 := by decide
/-- V129: SEC. -/
theorem test_sec :
    after (start 0x0300 [0x38] [])
      (fun t => t.p) = some 0x31 := by decide
/-- V130: CLI. -/
theorem test_cli :
    after { start 0x0300 [0x58] [] with p := 0x34 }
      (fun t => t.p) = some 0x30 := by decide
/-- V131: SEI. -/
theorem test_sei :
    after (start 0x0300 [0x78] [])
      (fun t => t.p) = some 0x34 := by decide
/-- V132: CLV. -/
theorem test_clv :
    after { start 0x0300 [0xB8] [] with p := 0x70 }
      (fun t => t.p) = some 0x30 := by decide
/-- V133: CLD. -/
theorem test_cld :
    after { start 0x0300 [0xD8] [] with p := 0x38 }
      (fun t => t.p) = some 0x30 := by decide
/-- V134: SED. -/
theorem test_sed :
    after (start 0x0300 [0xF8] [])
      (fun t => t.p) = some 0x38 := by decide
/-- V135: NOP. -/
theorem test_nop :
    after { start 0x0300 [0xEA] [] with ac := 0x01, ix := 0x02, iy := 0x03, p := 0xF3 }
      (fun t => (t.p, t.cyc)) = some (0xF3, 2) := by decide
/-- V136: 02 halts. -/
theorem test_illegal_halts :
    after { start 0x0300 [0x02] [] with ac := 0x11 }
      (fun t => (t.halt, t.pc)) = some (some ⟨0x0300, 0x02⟩, 0x0300) := by decide
/-- V18: A18 operand fetch wraps. -/
theorem test_operand_fetch_wraps :
    after (start 0xFFFE [0xAD] [(0x0000, 0x02), (0x0200, 0x5C), (0xFFFF, 0x00)])
      (fun t => (t.ac, t.pc)) = some (0x5C, 0x0001) := by decide

/-! ### Fetching and the words of spec/opcode_table.json -/

/-- The host's word of JSR: opcode in bits 7..0, operand bytes above it. -/
theorem test_table_word_jsr : decodeTableWord 24 0x341220 = some (.jsr 0x3412) := by decide
/-- A word given with fewer bits than the instruction has: its operand bytes are zero. -/
theorem test_table_word_short : decodeTableWord 8 0xAD = some (.ldaAbs 0x0000) := by decide
/-- An opcode without an entry. -/
theorem test_table_word_illegal : decodeTableWord 8 0x02 = none := by decide
/-- The next step after `withFetchWord` runs the word: the JMP of the source's example (95_test_vectors.md E7). -/
theorem test_fetch_word_runs : after (State.reset.withFetchWord 24 0x80054C) (fun t => (t.pc, t.cyc)) = some (0x8005, 3) := by
  decide
/-- E6: writeWord at 0xFFFF with programming mode set wraps to 0x0000. -/
theorem test_write_word_wraps :
    (({ State.reset with progMode := true }).writeWord 0xFFFF 0x1234).readByte 0x0000 = 0x12 ∧
      (({ State.reset with progMode := true }).writeWord 0xFFFF 0x1234).readWord 0xFFFF = 0x1234 := by decide
/-- E6: without programming mode the byte at 0xFFFF is discarded and the one at 0x0000 is written. -/
theorem test_write_word_discards_half :
    (State.reset.writeWord 0xFFFF 0x1234).readByte 0xFFFF = 0xFF ∧
      (State.reset.writeWord 0xFFFF 0x1234).readByte 0x0000 = 0x12 := by decide
/-- R51: writing the erased value leaves no entry, so equal memories are equal lists. -/
theorem test_memory_canonical : (State.reset.writeByte 0x0200 0x42).writeByte 0x0200 0xFF = State.reset := by decide
/-- R69: a two-byte image ends at 0xFFFF. -/
theorem test_boot_image : (boot [0xA9, 0x42, 0x00, 0x80, 0x11, 0x22]).map (fun s => (s.pc, s.readByte 0xFFFA)) =
    some (0x8000, 0xA9) := by decide

/-! ### The examples of R90 -/

theorem test_assemble_implied : (assemble 0 .INX .bare).map encode = some [0xE8] ∧
    (assemble 0 .ASL .accumulator).map encode = some [0x0A] ∧ (assemble 0 .ASL .bare).map encode = some [0x0A] :=
  ⟨rfl, rfl, rfl⟩
theorem test_assemble_operands : (assemble 0 .LDA (.immediate 0x42)).map encode = some [0xA9, 0x42] ∧
    (assemble 0 .LDA (.address 0x10)).map encode = some [0xA5, 0x10] ∧
    (assemble 0 .LDX (.addressY 0x10)).map encode = some [0xB6, 0x10] ∧
    (assemble 0 .STA (.address 0x0200)).map encode = some [0x8D, 0x00, 0x02] ∧
    (assemble 0 .LDA (.addressX 0x04FF)).map encode = some [0xBD, 0xFF, 0x04] ∧
    (assemble 0 .JMP (.indirect 0x0300)).map encode = some [0x6C, 0x00, 0x03] ∧
    (assemble 0 .LDA (.indexedIndirect 0x20)).map encode = some [0xA1, 0x20] ∧
    (assemble 0 .LDA (.indirectIndexed 0x20)).map encode = some [0xB1, 0x20] :=
  ⟨rfl, rfl, rfl, rfl, rfl, rfl, rfl, rfl⟩
theorem test_assemble_self_branch : (assemble 0x0300 .BNE (.label 0x0300)).map encode = some [0xD0, 0xFE] := rfl
/-- No Zero Page form: STA $0010,Y is Absolute. -/
theorem test_assemble_absolute_only : assemble 0 .STA (.addressY 0x10) = some (.staAbsY 0x0010) := rfl
theorem test_operand_text : (AsmOperand.indexedIndirect 0x20).text = ['(', '$', '2', '0', ',', 'X', ')'] ∧
    (AsmOperand.addressX 0x04FF).text = ['$', '0', '4', 'F', 'F', ',', 'X'] := by decide

/-! ### Witnesses: the hypotheses of each statement, met together -/

theorem witness_DecodeEncodeAgree : decode [0xAD, 0x34, 0x12, 0xEA] = .ok (.ldaAbs 0x1234, [0xEA]) := rfl

theorem witness_LengthFixedByOpcode :
    (opcodeLength 0x00 = some 1 ∧ ([] : List Byte).length + 1 = 1) ∧
    (opcodeLength 0xA9 = some 2 ∧ [(0x42 : Byte)].length + 1 = 2) ∧
    (opcodeLength 0xFE = some 3 ∧ [(0x34 : Byte), 0x12].length + 1 = 3) := by decide

/-- The second clause: exactly the operand bytes, and more. -/
theorem witness_LengthFixedByOpcode_read :
    decode (0x00 :: []) = .ok (.brk, []) ∧ decode (0xA9 :: [0x42]) = .ok (.ldaImm 0x42, []) ∧
      decode (0xFE :: [0x34, 0x12, 0xEA]) = .ok (.incAbsX 0x1234, [0xEA]) := ⟨rfl, rfl, rfl⟩

/-- The ends of the address space, a cell at each, and an address between them that no cell is listed for; a form of each
table. -/
theorem witness_ParametersHaveListedValues :
    (Memory.wf [(0, 0x42), (65535, 0x00)] ∧ ((65535, 0x00) : Host.Cell) ∈ [(0, (0x42 : Byte)), (65535, 0x00)] ∧
      ∀ c ∈ [((0, 0x42) : Host.Cell), (65535, 0x00)], c.1 ≠ 1) ∧
    (65535 < 65536 ∧ (0x00 : Byte) ≠ 0xFF) ∧
    ⟨.ldaIndY 0x40, 0xB1, 2, .memory (.indirectIndexed 0x40), 5, true⟩ ∈ readForms 0x40 0x1234 ∧
    ⟨.staAbsX 0x1234, 0x9D, 3, .absoluteX 0x1234, 5, false⟩ ∈ writeForms 0x40 0x1234 ∧
    ⟨.decAbsX 0x1234, 0xDE, 3, .memory (.absoluteX 0x1234), 7, false⟩ ∈ rmwForms 0x40 0x1234 ∧
    (.beq 0x40, 0xF0, .z, true) ∈ branchForms 0x40 ∧ (.brk, 7) ∈ fixedCostForms 0x1234 := by decide

/-- The instruction's bytes run past 0xFFFF. -/
theorem witness_StepRunsDecodedInstruction :
    let s := start 0xFFFE [0xAD, 0x00, 0x02] []
    s.halted = false ∧
      decode [s.readByte s.pc, s.readByte (s.pc + 1), s.readByte (s.pc + 2)] = .ok (.ldaAbs 0x0200, []) := ⟨rfl, rfl⟩

theorem witness_PcMovesPastInstruction :
    ∀ i ∈ [Instr.nop, .pla, .staAbs 0xFFFF], mnemonic i ∉
      [.BPL, .BMI, .BVC, .BVS, .BCC, .BCS, .BNE, .BEQ, .JMP, .JSR, .RTS, .BRK, .RTI] := by decide

theorem witness_IllegalOpcodeHalts :
    State.reset.halted = false ∧ State.reset.readByte State.reset.pc ∈ unimplementedOpcodes := by decide

/-- Each clause at the ends of its range: addresses 0x00FF and 0x0100, offsets -128 and 127, the latter past 0xFFFF. -/
theorem witness_AssembledInstructionIsMeant :
    assemble 0x0300 .LDA (.immediate 0x42) = some (.ldaImm 0x42) ∧
    (AsmOperand.addressY 0x00FF ∈ [.address 0x00FF, .addressX 0x00FF, .addressY 0x00FF] ∧
      assemble 0x0300 .LDX (.addressY 0x00FF) = some (.ldxZpY 0xFF) ∧ (encode (.ldxZpY 0xFF)).length = 2) ∧
    (encode .aslAcc).length = 1 ∧
    (⟨.ldaAbs 0x0100, 0xAD, 3, .memory (.absolute 0x0100), 4, false⟩ ∈ readForms 0xFF 0x0100 ∧
      256 ≤ (0x0100 : Addr).toNat) ∧
    ⟨.stxZpY 0xFF, 0x96, 2, .zeroPageY 0xFF, 4, false⟩ ∈ writeForms 0xFF 0x0000 ∧
    ⟨.rorAcc, 0x6A, 1, .accumulator, 2, false⟩ ∈ rmwForms 0xFF 0x0000 ∧
    (((0x0282 : Addr).toNat : Int) = ((0x0300 : Addr).toNat + 2 + (-128 : Int)) % 65536 ∧
      (.bne 0x80, 0xD0, .z, false) ∈ branchForms (BitVec.ofInt 8 (-128)) ∧ (start 0x0300 [0xD0, 0x80] []).pc = 0x0300) ∧
    (((0x0079 : Addr).toNat : Int) = ((0xFFF8 : Addr).toNat + 2 + (127 : Int)) % 65536 ∧
      (.beq 0x7F, 0xF0, .z, true) ∈ branchForms (BitVec.ofInt 8 127)) :=
  ⟨rfl, ⟨by decide, rfl, rfl⟩, rfl, ⟨by decide, by decide⟩, by decide, by decide, ⟨by decide, by decide, rfl⟩,
    by decide, by decide⟩

/-- Each clause at the ends of its range: a form of each syntax, addresses 0x00FF and 0x0100 with and without a Zero Page form,
and the farthest targets, with the first one out of reach on each side. -/
theorem witness_AssemblerPicksForm :
    ((asmForms .INX).implicit = some .inx ∧ (asmForms .ASL).accumulator = some .aslAcc ∧
      (asmForms .LDA).immediate = some .ldaImm ∧ (asmForms .JMP).indirect = some .jmpInd ∧
      (asmForms .LDA).indexedIndirect = some .ldaIndX ∧ (asmForms .LDA).indirectIndexed = some .ldaIndY) ∧
    ((asmForms .LDX).zeroPageY = some .ldxZpY ∧ (0x00FF : Addr).toNat < 256) ∧
    ((asmForms .LDA).zeroPageY = none ∧ assemble 0x0300 .LDA (.addressY 0x00FF) = some (.ldaAbsY 0x00FF)) ∧
    (256 ≤ (0x0100 : Addr).toNat ∧ assemble 0x0300 .LDA (.address 0x0100) = some (.ldaAbs 0x0100)) ∧
    ((asmForms .BNE).relative = some .bne ∧ branchOffset 0x0300 0x0282 = some 0x80 ∧
      branchOffset 0x0300 0x0381 = some 0x7F ∧ branchOffset 0x0300 0x0281 = none ∧ branchOffset 0x0300 0x0382 = none) :=
  ⟨⟨rfl, rfl, rfl, rfl, rfl, rfl⟩, ⟨rfl, by decide⟩, ⟨rfl, rfl⟩, ⟨by decide, rfl⟩, rfl, rfl, rfl, rfl, rfl⟩

/-- The state after reset and one step: halted, with the report of R332. -/
def haltedState : State := { State.reset with halt := some ⟨0xFFFF, 0xFF⟩ }

theorem witness_HaltEndsOnlyByReset : haltedState.halted = true := rfl

theorem witness_StepKeepsInv_running : State.reset.Inv :=
  ⟨Memory.wf_erased, rfl, rfl, fun r h => by cases h⟩

theorem witness_StepKeepsInv_halted : haltedState.Inv :=
  ⟨Memory.wf_erased, rfl, rfl, fun r h => by cases h; decide⟩

/-- The halt report's clause of the invariant has a case. -/
theorem witness_Inv_haltReport : haltedState.halt = some ⟨0xFFFF, 0xFF⟩ := rfl

theorem witness_TransactionKeepsInv : ({ State.reset with progMode := true }).Inv :=
  ⟨Memory.wf_erased, rfl, rfl, fun r h => by cases h⟩

theorem witness_ProtectedRegionKept :
    State.reset.progMode = false ∧ (0x7FFF : Addr) < 0x8000 ∧ (0x7FFF : Addr) < 0xFFFF := by decide

theorem witness_OnlyListedInstructionsWriteFlags :
    ∀ f ∈ [Flag.n, .v, .u, .b, .d, .i, .z, .c], mnemonic (.staAbs 0x0200) ∉ flagWriters f := by decide

theorem witness_OnlyListedInstructionsReadFlags :
    ∀ f ∈ [Flag.n, .v, .u, .b, .d, .i, .z, .c], mnemonic .plp ∉ flagReaders f := by decide

/-- One instruction for each clause: NOP writes none of the registers and no memory. -/
theorem witness_OnlyListedInstructionsWriteRegisters :
    mnemonic .nop ∉ [.ADC, .SBC, .AND, .ORA, .EOR, .PLA, .LDA, .TXA, .TYA] ∧
    Instr.nop ∉ [.aslAcc, .lsrAcc, .rolAcc, .rorAcc] ∧
    mnemonic .nop ∉ [.LDX, .TAX, .TSX, .INX, .DEX] ∧ mnemonic .nop ∉ [.LDY, .TAY, .INY, .DEY] ∧
    mnemonic .nop ∉ [.PHA, .PHP, .PLA, .PLP, .JSR, .RTS, .BRK, .RTI, .TXS] ∧
    mnemonic .nop ∉ [.STA, .STX, .STY, .ASL, .LSR, .ROL, .ROR, .INC, .DEC, .PHA, .PHP, .JSR, .BRK] := by decide

theorem witness_ByteWriteRule : (0x7FFF : Addr) < 0x8000 ∧ State.reset.progMode = false := by decide

/-- The last pair of cells that is wholly writable, and the pair that wraps, in programming mode. -/
theorem witness_WordAccessRule :
    (((0x7FFE : Addr) ≤ 0x7FFF ∧ (0x7FFE : Addr) + 1 ≤ 0x7FFF) ∨ State.reset.progMode = true) ∧
    (((0xFFFF : Addr) ≤ 0x7FFF ∧ (0xFFFF : Addr) + 1 ≤ 0x7FFF) ∨ ({ State.reset with progMode := true }).progMode = true) := by
  decide

/-- Power-up memory, and a state with a program in it whose vector was never programmed. -/
theorem witness_UnprogrammedVectorHalts :
    (State.reset.readByte 0xFFFC = 0xFF ∧ State.reset.readByte 0xFFFD = 0xFF ∧ State.reset.readByte 0xFFFF = 0xFF) ∧
    let s := { start 0x8000 [0xA9, 0x42] [] with ac := 0x42, cyc := 7, halt := some ⟨0x8002, 0xFF⟩ }
    s.readByte 0xFFFC = 0xFF ∧ s.readByte 0xFFFD = 0xFF ∧ s.readByte 0xFFFF = 0xFF := by decide

theorem witness_HostMemoryPort : ({ State.reset with progMode := true }).progMode = true := rfl

theorem witness_StackLaws :
    (List.replicate 256 (0x5A : Byte)).length = 256 ∧
    ((0x00FF : Addr) < 0x0100 ∨ (0x01FF : Addr) < 0x00FF) ∧ ((0x0200 : Addr) < 0x0100 ∨ (0x01FF : Addr) < 0x0200) ∧
    0 < 256 ∧ 255 < 256 ∧ ({ State.reset with sp := 0x00 }).sp = 0x00 :=
  ⟨List.length_replicate, by decide, by decide, by decide, by decide, rfl⟩

theorem witness_PointerAddressing :
    (({ State.reset with ix := 0x01 }).ix.toNat + (0xFE : Byte).toNat) % 256 = 0xFF := by decide

theorem witness_AdcEveryForm : ⟨.adcImm 0x01, 0x69, 2, .immediate 0x01, 2, false⟩ ∈ adcForms 0x01 0x1234 := by decide

theorem witness_AdcBinaryLaw :
    ⟨.adcAbsX 0x1234, 0x7D, 3, .memory (.absoluteX 0x1234), 4, true⟩ ∈ adcForms 0x01 0x1234 ∧
      State.reset.flag .d = false := by decide

/-- Decimal mode, 99 + 01 (95_test_vectors.md E2). -/
theorem witness_AdcAddsDecimalDigits :
    let s := { State.reset with ac := 0x99, p := 0x38 }
    ⟨.adcImm 0x01, 0x69, 2, .immediate 0x01, 2, false⟩ ∈ adcForms 0x01 0x1234 ∧ s.flag .d = true ∧
      (s.ac.toNat % 16 ≤ 9 ∧ s.ac.toNat / 16 ≤ 9) ∧
      (((ReadOperand.immediate 0x01).value s).toNat % 16 ≤ 9 ∧ ((ReadOperand.immediate 0x01).value s).toNat / 16 ≤ 9) := by
  decide

/-- `ValidBcd` is the pair of bounds shown above. -/
theorem witness_ValidBcd : ValidBcd 0x99 ∧ ValidBcd 0x00 := by unfold ValidBcd; decide

theorem witness_SbcEveryForm : ⟨.sbcImm 0x01, 0xE9, 2, .immediate 0x01, 2, false⟩ ∈ sbcForms 0x01 0x1234 := by decide

theorem witness_SbcFlagsSameInBothModes :
    ⟨.sbcIndY 0x01, 0xF1, 2, .memory (.indirectIndexed 0x01), 5, true⟩ ∈ sbcForms 0x01 0x1234 ∧
      State.reset.flag .d = false := by decide

theorem witness_SbcSubtractsDecimalDigits :
    let s := { State.reset with ac := 0x00, p := 0x39 }
    ⟨.sbcImm 0x01, 0xE9, 2, .immediate 0x01, 2, false⟩ ∈ sbcForms 0x01 0x1234 ∧ s.flag .d = true ∧
      (s.ac.toNat % 16 ≤ 9 ∧ s.ac.toNat / 16 ≤ 9) ∧
      (((ReadOperand.immediate 0x01).value s).toNat % 16 ≤ 9 ∧ ((ReadOperand.immediate 0x01).value s).toNat / 16 ≤ 9) := by
  decide

theorem witness_LogicEveryForm :
    ⟨.andZp 0x10, 0x25, 2, .memory (.zeroPage 0x10), 3, false⟩ ∈ andForms 0x10 0x1234 ∧
    ⟨.oraImm 0x10, 0x09, 2, .immediate 0x10, 2, false⟩ ∈ oraForms 0x10 0x1234 ∧
    ⟨.eorIndX 0x10, 0x41, 2, .memory (.indexedIndirect 0x10), 6, false⟩ ∈ eorForms 0x10 0x1234 := by decide

theorem witness_CompareEveryForm :
    ⟨.cmpImm 0x10, 0xC9, 2, .immediate 0x10, 2, false⟩ ∈ cmpForms 0x10 0x1234 ∧
    ⟨.cpxAbs 0x1234, 0xEC, 3, .memory (.absolute 0x1234), 4, false⟩ ∈ cpxForms 0x10 0x1234 ∧
    ⟨.cpyZp 0x10, 0xC4, 2, .memory (.zeroPage 0x10), 3, false⟩ ∈ cpyForms 0x10 0x1234 := by decide

theorem witness_BitTestEveryForm :
    ⟨.bitAbs 0x1234, 0x2C, 3, .memory (.absolute 0x1234), 4, false⟩ ∈ bitForms 0x10 0x1234 := by decide

/-- AC = 0x81, C = 1: the four clauses on the accumulator. -/
theorem witness_ShiftRotateEveryForm_accumulator :
    let s := { State.reset with ac := 0x81, p := 0x31 }
    let v : Byte := RmwTarget.accumulator.value s
    (⟨.aslAcc, 0x0A, 1, .accumulator, 2, false⟩ ∈ aslForms 0 0 ∧ (0x02 : Byte).toNat = 2 * v.toNat % 256 ∧
      true = v.getLsbD 7) ∧
    (⟨.lsrAcc, 0x4A, 1, .accumulator, 2, false⟩ ∈ lsrForms 0 0 ∧ (0x40 : Byte).toNat = v.toNat / 2 ∧
      true = v.getLsbD 0) ∧
    (⟨.rolAcc, 0x2A, 1, .accumulator, 2, false⟩ ∈ rolForms 0 0 ∧
      (0x03 : Byte).toNat = (2 * v.toNat + bitNat (s.flag .c)) % 256 ∧ true = v.getLsbD 7) ∧
    (⟨.rorAcc, 0x6A, 1, .accumulator, 2, false⟩ ∈ rorForms 0 0 ∧
      (0xC0 : Byte).toNat = v.toNat / 2 + 128 * bitNat (s.flag .c) ∧ true = v.getLsbD 0) := by decide

/-- A memory form: the unlisted cell 0x9000 holds 0xFF. -/
theorem witness_ShiftRotateEveryForm_memory :
    ⟨.aslAbs 0x9000, 0x0E, 3, .memory (.absolute 0x9000), 6, false⟩ ∈ aslForms 0 0x9000 ∧
      (0xFE : Byte).toNat = 2 * ((RmwTarget.memory (.absolute 0x9000)).value State.reset).toNat % 256 ∧
      true = ((RmwTarget.memory (.absolute 0x9000)).value State.reset).getLsbD 7 := by decide

theorem witness_IncDecMemoryEveryForm :
    (⟨.incZp 0x10, 0xE6, 2, .memory (.zeroPage 0x10), 5, false⟩ ∈ incForms 0x10 0 ∧
      (0x00 : Byte).toNat = ((State.reset.readByte ((MemMode.zeroPage 0x10).ea State.reset)).toNat + 1) % 256) ∧
    (⟨.decAbs 0x8001, 0xCE, 3, .memory (.absolute 0x8001), 6, false⟩ ∈ decForms 0 0x8001 ∧
      (0xFE : Byte).toNat = ((State.reset.readByte ((MemMode.absolute 0x8001).ea State.reset)).toNat + 255) % 256) := by
  decide

/-- Each count at its wrap. -/
theorem witness_IncDecIndexRegisters :
    let s := { State.reset with ix := 0xFF, iy := 0x00 }
    (0x00 : Byte).toNat = (s.ix.toNat + 1) % 256 ∧ (0x01 : Byte).toNat = (s.iy.toNat + 1) % 256 ∧
    (0xFE : Byte).toNat = (s.ix.toNat + 255) % 256 ∧ (0xFF : Byte).toNat = (s.iy.toNat + 255) % 256 := by decide

theorem witness_BranchEveryForm : (.beq 0xFE, 0xF0, .z, true) ∈ branchForms 0xFE := by decide

theorem witness_PullInvariantHolds : Flag.n ∈ [Flag.n, .v, .d, .i, .z, .c] := by decide

theorem witness_JsrThenRtsReturns :
    (0x0200 : Addr) ≠ stackCell State.reset.sp ∧ (0x0200 : Addr) ≠ stackCell (State.reset.sp - 1) := by decide

theorem witness_BrkThenRtiResumes :
    State.reset.Inv ∧ ((0x00FF : Addr).toNat < 0x100 ∨ 0x1FF < (0x00FF : Addr).toNat) ∧
      ((0x0200 : Addr).toNat < 0x100 ∨ 0x1FF < (0x0200 : Addr).toNat) :=
  ⟨witness_StepKeepsInv_running, by decide, by decide⟩

theorem witness_LoadEveryForm :
    ⟨.ldaIndY 0x40, 0xB1, 2, .memory (.indirectIndexed 0x40), 5, true⟩ ∈ ldaForms 0x40 0x1234 ∧
    ⟨.ldxZpY 0x40, 0xB6, 2, .memory (.zeroPageY 0x40), 4, false⟩ ∈ ldxForms 0x40 0x1234 ∧
    ⟨.ldyAbsX 0x1234, 0xBC, 3, .memory (.absoluteX 0x1234), 4, true⟩ ∈ ldyForms 0x40 0x1234 := by decide

theorem witness_StoreEveryForm :
    ⟨.staAbsX 0x7FFF, 0x9D, 3, .absoluteX 0x7FFF, 5, false⟩ ∈ staForms 0x40 0x7FFF ∧
    ⟨.stxZpY 0x40, 0x96, 2, .zeroPageY 0x40, 4, false⟩ ∈ stxForms 0x40 0x7FFF ∧
    ⟨.styAbs 0x8000, 0x8C, 3, .absolute 0x8000, 4, false⟩ ∈ styForms 0x40 0x8000 := by decide

theorem witness_FlagInstructions : (.sed, 0xF8, .d, true) ∈ flagForms := by decide

/-- The shortest image and the longest. -/
theorem witness_BootPlacesImage :
    ([0x42] : List Byte) ≠ [] ∧ ([0x42] : List Byte).length ≤ 65536 ∧ (0xFFFE : Addr).toNat < 65536 - 1 ∧
    (List.replicate 65536 (0xEA : Byte)).length ≤ 65536 :=
  ⟨by decide, by decide, by decide, by rw [List.length_replicate]⟩

end Sys2Proof.Tests
end

section
/-! PROOF. What a running step keeps: canonical memory and P.U = P.B = 1, lemma by lemma from the flag unit up to `exec`. -/

namespace Sys2Proof.Machine

/-- The two bits of P that no program can clear are set (10_state.md R27, R30). -/
def PullBitsSet (p : Byte) : Prop := getFlag p .u = true ∧ getFlag p .b = true

/-! ### The flag unit leaves U and B alone, a pull sets them -/

theorem pullBitsSet_setFlag {p : Byte} (h : PullBitsSet p) {f : Flag} (hu : f ≠ .u) (hb : f ≠ .b) (x : Bool) :
    PullBitsSet (setFlag p f x) := by
  simpa [PullBitsSet, hu.symm, hb.symm] using h

theorem pullBitsSet_setNZ {p : Byte} (h : PullBitsSet p) (v : Byte) : PullBitsSet (setNZ p v) := by
  simpa [PullBitsSet] using h

theorem pullBitsSet_setNZC {p : Byte} (h : PullBitsSet p) (r : Byte) (c : Bool) : PullBitsSet (setNZC p r c) := by
  simpa [PullBitsSet] using h

theorem pullBitsSet_setNVZC {p : Byte} (h : PullBitsSet p) (n v z c : Bool) : PullBitsSet (setNVZC p n v z c) := by
  simpa [PullBitsSet] using h

theorem pullBitsSet_bitTestFlags {p : Byte} (h : PullBitsSet p) (ac m : Byte) :
    PullBitsSet (bitTestFlags p ac m) := by
  simpa [PullBitsSet] using h

theorem pullBitsSet_pulledP (b : Byte) : PullBitsSet (pulledP b) := by simp [PullBitsSet]

theorem pullBitsSet_pReset : PullBitsSet config.pReset := by
  unfold PullBitsSet
  decide

theorem pullBitsSet_adcResult {p : Byte} (h : PullBitsSet p) (a m : Byte) : PullBitsSet (adcResult p a m).2 := by
  unfold adcResult
  dsimp only
  split
  · exact pullBitsSet_setNVZC h _ _ _ _
  · exact pullBitsSet_setNVZC h _ _ _ _

theorem pullBitsSet_sbcResult {p : Byte} (h : PullBitsSet p) (a m : Byte) : PullBitsSet (sbcResult p a m).2 :=
  pullBitsSet_setNVZC h _ _ _ _

/-! ### The invariant of a running core -/

/-- The invariant without its halt report: canonical memory and P.U = P.B = 1. It looks at memory and P only, so a write
to another register keeps it by definition. -/
def State.RunningInv (s : State) : Prop := s.mem.wf ∧ PullBitsSet s.p

/-- The invariant is that of a running core and a halt report that agrees with PC. -/
theorem State.inv_iff (s : State) :
    s.Inv ↔ s.RunningInv ∧ ∀ r, s.halt = some r → r.haltPC = s.pc ∧ r.haltOp ∈ unimplementedOpcodes :=
  ⟨fun h => ⟨⟨h.memCanonical, h.unusedSet, h.breakSet⟩, h.haltReport⟩,
    fun ⟨⟨hm, hu, hb⟩, hr⟩ => ⟨hm, hu, hb, hr⟩⟩

/-- With no halt report the invariant is that of a running core. -/
theorem State.RunningInv.inv {s : State} (h : s.RunningInv) (hh : s.halt = none) : s.Inv :=
  s.inv_iff.2 ⟨h, fun r hr => by simp [hh] at hr⟩

section
variable {s : State} (h : s.RunningInv)
include h

theorem State.RunningInv.withP {p : Byte} (hp : PullBitsSet p) : (s.withP p).RunningInv := ⟨h.1, hp⟩

theorem State.RunningInv.withFlag {f : Flag} (hu : f ≠ .u) (hb : f ≠ .b) (x : Bool) :
    (s.withFlag f x).RunningInv :=
  h.withP (pullBitsSet_setFlag h.2 hu hb x)

theorem State.RunningInv.loadAc (v : Byte) : (loadAc v s).RunningInv := h.withP (pullBitsSet_setNZ h.2 v)

theorem State.RunningInv.loadIx (v : Byte) : (loadIx v s).RunningInv := h.withP (pullBitsSet_setNZ h.2 v)

theorem State.RunningInv.loadIy (v : Byte) : (loadIy v s).RunningInv := h.withP (pullBitsSet_setNZ h.2 v)

theorem State.RunningInv.writeByte (a : Addr) (v : Byte) : (s.writeByte a v).RunningInv :=
  ⟨State.wf_writeByte h.1 a v, by rw [State.writeByte_p]; exact h.2⟩

theorem State.RunningInv.push (v : Byte) : (s.push v).RunningInv := h.writeByte _ v

theorem State.RunningInv.push16 (w : Addr) : (s.push16 w).RunningInv := (h.push _).push _

theorem State.RunningInv.takeTrap (ret : Addr) : (s.takeTrap ret).RunningInv :=
  ((h.push16 ret).push s.p).withFlag (by decide) (by decide) true

theorem State.RunningInv.returnFromTrap : s.returnFromTrap.RunningInv := by
  rw [State.returnFromTrap_eq]
  exact h.withP (pullBitsSet_pulledP _)

theorem State.RunningInv.rmwStore (o : RmwTarget) (s₀ : State) (v : Byte) : (o.store s₀ s v).RunningInv := by
  cases o with
  | accumulator => exact h
  | memory m => exact h.writeByte _ v

/-! ### The semantics of each shape of instruction -/

theorem ReadSem.keeps_runningInv {m : Mnemonic} {sem : Byte → State → State} (hsem : ReadSem m sem) (v : Byte) :
    (sem v s).RunningInv := by
  cases hsem with
  | ADC => exact h.withP (pullBitsSet_adcResult h.2 _ _)
  | SBC => exact h.withP (pullBitsSet_sbcResult h.2 _ _)
  | AND => exact h.loadAc _
  | ORA => exact h.loadAc _
  | EOR => exact h.loadAc _
  | CMP => exact h.withP (pullBitsSet_setNZC h.2 _ _)
  | CPX => exact h.withP (pullBitsSet_setNZC h.2 _ _)
  | CPY => exact h.withP (pullBitsSet_setNZC h.2 _ _)
  | BIT => exact h.withP (pullBitsSet_bitTestFlags h.2 _ _)
  | LDA => exact h.loadAc _
  | LDX => exact h.loadIx _
  | LDY => exact h.loadIy _

theorem ImplicitSem.keeps_runningInv {m : Mnemonic} {sem : State → State} (hsem : ImplicitSem m sem) :
    (sem s).RunningInv := by
  cases hsem with
  | INX => exact h.loadIx _
  | INY => exact h.loadIy _
  | DEX => exact h.loadIx _
  | DEY => exact h.loadIy _
  | PHA => exact h.push _
  | PHP => exact h.push _
  | PLA => exact State.RunningInv.loadAc (s := s.pull.2) h _
  | PLP => exact h.withP (pullBitsSet_pulledP _)
  | RTS => exact h
  | TAX => exact h.loadIx _
  | TAY => exact h.loadIy _
  | TXA => exact h.loadAc _
  | TYA => exact h.loadAc _
  | TSX => exact h.loadIx _
  | TXS => exact h
  | CLC => exact h.withFlag (by decide) (by decide) _
  | SEC => exact h.withFlag (by decide) (by decide) _
  | CLI => exact h.withFlag (by decide) (by decide) _
  | SEI => exact h.withFlag (by decide) (by decide) _
  | CLV => exact h.withFlag (by decide) (by decide) _
  | CLD => exact h.withFlag (by decide) (by decide) _
  | SED => exact h.withFlag (by decide) (by decide) _
  | NOP => exact h
  | RTI => exact h.returnFromTrap

end

theorem RmwSem.keeps_pullBitsSet {m : Mnemonic} {sem : Byte → Byte → Byte × Byte} (hsem : RmwSem m sem) (v : Byte)
    {p : Byte} (h : PullBitsSet p) : PullBitsSet (sem v p).2 := by
  cases hsem with
  | ASL => exact pullBitsSet_setNZC h _ _
  | LSR => exact pullBitsSet_setNZC h _ _
  | ROL => exact pullBitsSet_setNZC h _ _
  | ROR => exact pullBitsSet_setNZC h _ _
  | INC => exact pullBitsSet_setNZ h _
  | DEC => exact pullBitsSet_setNZ h _

/-- Every instruction completes and keeps the invariant of a running core. -/
theorem exec_keeps_runningInv (i : Instr) {s : State} (h : s.RunningInv) :
    ∃ t, exec i s = .next t ∧ t.RunningInv := by
  have hshape := exec_shape i s
  generalize exec i s = o at hshape ⊢
  cases hshape with
  | read hsem => exact ⟨_, rfl, hsem.keeps_runningInv (s := s.advance _) h _⟩
  | write hsem => exact ⟨_, rfl, State.RunningInv.writeByte (s := s.advance _) h _ _⟩
  | @rmw target sem hsem hacc =>
    have hp : (s.advance target.length).RunningInv := h
    exact ⟨_, rfl, (hp.withP (hsem.keeps_pullBitsSet _ h.2)).rmwStore target s _⟩
  | implicit hsem => exact ⟨_, rfl, hsem.keeps_runningInv (s := s.advance 1) h⟩
  | branch hsem => exact ⟨_, rfl, h⟩
  | jump hi => exact ⟨_, rfl, h⟩
  | call hi => exact ⟨_, rfl, h.push16 _⟩
  | trap hi => exact ⟨_, rfl, h.takeTrap _⟩

end Sys2Proof.Machine
end

section
/-! PROOF. The dispatch domain: the opcodes of IMPLEMENTED have an entry, those R88 lists have none. -/

namespace Sys2Proof

/-- R88's list is the complement of IMPLEMENTED, by a check of the 256 opcodes. -/
theorem mem_implemented_iff (op : Byte) : op ∈ Machine.config.implemented ↔ op ∉ unimplementedOpcodes := by
  revert op
  decide

/-- The opcode map has an entry for every implemented opcode: by evaluation, row by row. -/
theorem opcodeEntry_isSome : ∀ op ∈ Machine.config.implemented, (opcodeEntry op).isSome = true :=
  List.map_inj_left.1 rfl

/-- An opcode has a dispatch entry exactly when it is implemented. -/
theorem dispatch_isSome_iff (op : Byte) : (dispatch op).isSome = true ↔ op ∈ Machine.config.implemented := by
  rw [Option.isSome_iff_exists]
  constructor
  · rintro ⟨e, he⟩
    exact (dispatch_eq_some_iff.1 he).1
  · intro h
    obtain ⟨e, he⟩ := Option.isSome_iff_exists.1 (opcodeEntry_isSome op h)
    exact ⟨e, dispatch_eq_some_iff.2 ⟨h, he⟩⟩

namespace Machine

/-- The fetch finds no instruction exactly when the opcode at PC is one R88 lists. -/
theorem fetchInstr_eq_none_iff (s : State) : fetchInstr s = none ↔ fetchOpcode s ∈ unimplementedOpcodes := by
  have hnone : fetchInstr s = none ↔ dispatch (fetchOpcode s) = none := by
    unfold fetchInstr
    cases dispatch (fetchOpcode s) with
    | none => simp
    | some e => cases e <;> simp
  rw [hnone, ← Option.not_isSome_iff_eq_none, dispatch_isSome_iff, mem_implemented_iff, not_not]

end Machine

end Sys2Proof
end

section
/-! PROOF. Every step and every host transaction keeps the invariant (O13). -/

namespace Sys2Proof.Machine

/-- The illegal-instruction halt keeps the invariant: its report is PC and the opcode there (60_exceptions.md R300). -/
theorem State.Inv.raiseIllegal {s : State} (h : s.Inv) (hf : fetchInstr s = none) :
    (s.raiseIllegal s.pc (fetchOpcode s)).Inv := by
  refine (State.inv_iff _).2 ⟨(s.inv_iff.1 h).1, fun r hr => ?_⟩
  obtain rfl := Option.some.inj hr
  exact ⟨rfl, (fetchInstr_eq_none_iff s).1 hf⟩

/-- An instruction of a core that is not halted keeps the invariant. -/
theorem exec_keeps_inv (i : Instr) {s : State} (h : s.Inv) (hh : s.halt = none) :
    ∃ t, exec i s = .next t ∧ t.Inv := by
  obtain ⟨t, ht, hinv⟩ := exec_keeps_runningInv i (s.inv_iff.1 h).1
  obtain ⟨t', ht', hhalt, -⟩ := exec_frame i s
  obtain rfl : t = t' := Host.Outcome.next.inj (ht.symm.trans ht')
  exact ⟨t, ht, hinv.inv (hhalt.trans hh)⟩

/-- Every step completes and keeps the invariant. -/
theorem step_keeps_inv {s : State} (h : s.Inv) : ∃ t, step s = .next t ∧ t.Inv := by
  rcases step_cases s with ⟨-, hs⟩ | ⟨-, hf, hs⟩ | ⟨hh, i, -, hs⟩
  · exact ⟨s, hs, h⟩
  · exact ⟨_, hs, h.raiseIllegal hf⟩
  · rw [hs]
    exact exec_keeps_inv i h (by simpa [State.halted] using hh)

/-- What `reset()` leaves meets the invariant, whatever the programming mode (10_state.md R35). -/
theorem State.inv_afterReset {m : Memory} (h : m.wf) (pm : Bool) : (State.afterReset m pm).Inv :=
  State.RunningInv.inv ⟨h, pullBitsSet_pReset⟩ rfl

theorem State.Inv.writeByte {s : State} (h : s.Inv) (a : Addr) (v : Byte) : (s.writeByte a v).Inv := by
  obtain ⟨hrun, hreport⟩ := s.inv_iff.1 h
  refine (State.inv_iff _).2 ⟨hrun.writeByte a v, ?_⟩
  simpa using hreport

theorem State.Inv.writeWord {s : State} (h : s.Inv) (a w : Addr) : (s.writeWord a w).Inv :=
  (h.writeByte _ _).writeByte _ _

theorem State.Inv.withProgMode {s : State} (h : s.Inv) (pm : Bool) : (s.withProgMode pm).Inv :=
  (State.inv_iff _).2 (s.inv_iff.1 h)

/-- Settles O13, transaction by transaction; the step transaction is `step_keeps_inv`. -/
theorem transactionKeepsInv : Obligations.TransactionKeepsInv := by
  unfold Obligations.TransactionKeepsInv
  intro t s h
  cases t with
  | reset => exact ⟨_, _, rfl, State.inv_afterReset h.memCanonical _⟩
  | step =>
    obtain ⟨s', hs, hinv⟩ := step_keeps_inv h
    exact ⟨s', _, transact_step hs, hinv⟩
  | readByte a => exact ⟨_, _, rfl, h⟩
  | writeByte a v => exact ⟨_, _, rfl, h.writeByte a v⟩
  | readWord a => exact ⟨_, _, rfl, h⟩
  | writeWord a w => exact ⟨_, _, rfl, h.writeWord a w⟩
  | enterProgrammingMode => exact ⟨_, _, rfl, h.withProgMode true⟩
  | exitProgrammingMode => exact ⟨_, _, rfl, h.withProgMode false⟩

end Sys2Proof.Machine
end

section
/-! PROOF. Byte and word writes cell by cell, and the host's memory port (O25). -/

namespace Sys2Proof.Machine

open Sys2Proof.Claims

theorem lo_eq_ofNat (w : Addr) : lo w = BitVec.ofNat 8 (w.toNat % 256) :=
  BitVec.eq_of_toNat_eq (by simp [lo_toNat])

theorem hi_eq_ofNat (w : Addr) : hi w = BitVec.ofNat 8 (w.toNat / 256) := by
  apply BitVec.eq_of_toNat_eq
  have := w.isLt
  rw [hi_toNat, BitVec.toNat_ofNat]
  omega

/-- A list of assignments in two parts: the second part's outcome is the first part's old value. -/
theorem assigned_append {κ β : Type} [DecidableEq κ] (key : κ) (old : β) (l r : List (κ × β)) :
    assigned key old (l ++ r) = assigned key (assigned key old r) l := by
  induction l with
  | nil => rfl
  | cons kv l ih => simp only [List.cons_append, assigned, ih]

/-- What one byte write makes of a cell: its byte where the write is admitted there, else the old value. -/
theorem assigned_admitted (s : State) (ea : Addr) (v : Byte) (a : Addr) (old : Byte) :
    assigned a old (admitted s ea v) = if a = ea ∧ s.writable ea = true then v else old := by
  unfold admitted
  by_cases h : ea ≤ 0x7FFF ∨ s.progMode = true
  · simp only [if_pos h, assigned, (s.writable_iff ea).2 h, and_true]
  · simp only [if_neg h, assigned, if_neg fun hw => h ((s.writable_iff ea).1 (And.right hw))]

/-- In programming mode every write is admitted (20_memory.md R53, R56). -/
theorem admitted_of_progMode {s : State} (h : s.progMode = true) (ea : Addr) (v : Byte) :
    admitted s ea v = [(ea, v)] := by simp [admitted, h]

/-- A byte write stores its byte where it is admitted and nothing else (20_memory.md R53). -/
theorem State.memoryBecomes_writeByte (s : State) (a : Addr) (v : Byte) :
    MemoryBecomes s (s.writeByte a v).mem (admitted s a v) := fun x => by
  rw [assigned_admitted]
  exact State.readByte_writeByte s a v x

/-- A word write stores each of its bytes where that byte is admitted and nothing else (20_memory.md R55). -/
theorem State.memoryBecomes_writeWord (s : State) (a w : Addr) :
    MemoryBecomes s (s.writeWord a w).mem (admitted s (a + 1) (hi w) ++ admitted s a (lo w)) := fun x => by
  rw [assigned_append, assigned_admitted, assigned_admitted, ← State.writable_writeByte s a (lo w) (a + 1),
    ← State.readByte_writeByte]
  exact State.readByte_writeByte _ _ _ x

/-- A word write touches memory only. -/
theorem State.writeWord_eq_withMem (s : State) (a w : Addr) :
    s.writeWord a w = s.withMem (s.writeWord a w).mem := by
  unfold State.writeWord
  rw [State.writeByte_eq_withMem (s.writeByte a (lo w)), State.writeByte_eq_withMem s]
  rfl

/-- The host's byte write changes memory alone, by the admitted cell. -/
theorem transact_writeByte (s : State) (a : Addr) (v : Byte) :
    ∃ m', transact (.writeByte a v) s = .next ({ s with mem := m' }, .done) ∧
      MemoryBecomes s m' (admitted s a v) :=
  ⟨_, congrArg (fun t => Host.Outcome.next (t, Reply.done)) (s.writeByte_eq_withMem a v),
    s.memoryBecomes_writeByte a v⟩

/-- The host's word write changes memory alone, by the admitted cells. -/
theorem transact_writeWord (s : State) (a w : Addr) :
    ∃ m', transact (.writeWord a w) s = .next ({ s with mem := m' }, .done) ∧
      MemoryBecomes s m' (admitted s (a + 1) (hi w) ++ admitted s a (lo w)) :=
  ⟨_, congrArg (fun t => Host.Outcome.next (t, Reply.done)) (s.writeWord_eq_withMem a w),
    s.memoryBecomes_writeWord a w⟩

/-- Settles O25: the reads and the mode transactions by definition, the writes cell by cell; in programming mode every
cell is admitted. -/
theorem hostMemoryPort : Obligations.HostMemoryPort := by
  unfold Obligations.HostMemoryPort
  intro s a v w
  have hbyte := transact_writeByte s a v
  have hword := transact_writeWord s a w
  refine ⟨rfl, rfl, hbyte, ?_, rfl, rfl, fun hprog => ⟨?_, ?_⟩⟩
  · rwa [← hi_eq_ofNat, ← lo_eq_ofNat]
  · rwa [admitted_of_progMode hprog] at hbyte
  · rwa [admitted_of_progMode hprog, admitted_of_progMode hprog] at hword

end Sys2Proof.Machine
end

section
/-! PROOF. The parameters of 00_scope.md R5 and their use in the model (O60). -/

namespace Sys2Proof.Machine

open Sys2Proof.Claims

/-- A cell the list does not name reads as the erased value (20_memory.md R51). -/
theorem Memory.read_of_unlisted {m : Memory} {a : Nat} (h : ∀ c ∈ m, c.1 ≠ a) : m.read a = Memory.unlisted := by
  induction m with
  | nil => rfl
  | cons c m ih =>
    rw [List.forall_mem_cons] at h
    simp only [Memory.read, if_neg h.1, ih h.2]

/-- A single cell inside the address space is a canonical memory. -/
theorem Memory.wf_singleton {a : Nat} {v : Byte} (ha : a < 2 ^ config.addrWidth) (hv : v ≠ Memory.unlisted) :
    Memory.wf [(a, v)] :=
  ⟨List.pairwise_singleton _ _, by simpa using ⟨ha, hv⟩⟩

/-! CYCLE_TABLE against each table of forms: the two columns are the same list by evaluation, whatever the operands, and
`List.map_inj_left` reads that equality row by row. -/

theorem cycleTable_readForms (b : Byte) (w : Addr) :
    ∀ f ∈ readForms b w, config.cycleTable f.instr = ⟨f.base, f.crossAdds, false⟩ := by
  simp only [readForms, List.forall_mem_append, and_assoc]
  and_intros <;> exact List.map_inj_left.1 rfl

theorem cycleTable_writeForms (b : Byte) (w : Addr) :
    ∀ f ∈ writeForms b w, config.cycleTable f.instr = ⟨f.base, f.crossAdds, false⟩ :=
  List.map_inj_left.1 rfl

theorem cycleTable_rmwForms (b : Byte) (w : Addr) :
    ∀ f ∈ rmwForms b w, config.cycleTable f.instr = ⟨f.base, f.crossAdds, false⟩ :=
  List.map_inj_left.1 rfl

theorem cycleTable_branchForms (b : Byte) : ∀ f ∈ branchForms b, config.cycleTable f.1 = ⟨2, false, true⟩ :=
  List.map_inj_left.1 rfl

theorem cycleTable_fixedCostForms (w : Addr) :
    ∀ f ∈ fixedCostForms w, config.cycleTable f.1 = ⟨f.2, false, false⟩ :=
  List.map_inj_left.1 rfl

/-- Settles O60, parameter by parameter in the order of R5. -/
theorem parametersHaveListedValues : Obligations.ParametersHaveListedValues := by
  unfold Obligations.ParametersHaveListedValues
  refine ⟨⟨rfl, rfl, rfl, rfl⟩, ⟨byte_eq_dataWidth, addr_eq_addrWidth, addr_eq_pcWidth, cycleCount_eq_cycWidth⟩,
    ⟨rfl, ?_, ?_, rfl, fun m a h => Memory.read_of_unlisted h⟩, ⟨rfl, State.writable_iff⟩,
    ⟨rfl, rfl, rfl, rfl, rfl⟩, ⟨rfl, fun op => ⟨mem_implemented_iff op, dispatch_isSome_iff op⟩⟩,
    fun b w => ⟨cycleTable_readForms b w, cycleTable_writeForms b w, cycleTable_rmwForms b w,
      cycleTable_branchForms b, cycleTable_fixedCostForms w⟩⟩
  · intro m c hwf hc
    exact (hwf.2 c hc).1
  · intro a v ha hv
    exact Memory.wf_singleton ha hv

end Sys2Proof.Machine
end

section
/-! PROOF. The invariant of 10_state.md R30 at reset and over a step (O11, O12), the layout of P (O20) and the pull
invariant in PLP and RTI (O43). -/

namespace Sys2Proof.Machine

open Sys2Proof.Claims

/-- Settles O11: it is `step_keeps_inv`. -/
theorem stepKeepsInv : Obligations.StepKeepsInv := by
  unfold Obligations.StepKeepsInv
  exact fun _ h => step_keeps_inv h

/-- Settles O12: the state after reset is `reset()` over erased memory. -/
theorem resetMeetsInv : Obligations.ResetMeetsInv :=
  ⟨State.inv_afterReset Memory.wf_erased false, rfl⟩

/-- The pull invariant as a list of assignments: U and B at 1, the other six flags as in the byte (10_state.md R27). -/
theorem flagsBecome_pulledP (b : Byte) : FlagsBecome b (pulledP b) [(.u, true), (.b, true)] := fun f => by
  cases f <;> simp [assigned]

/-- Settles O20: the layout and the pull by definition, the assignment and the pull flag by flag from the flag unit. -/
theorem flagUnit : Obligations.FlagUnit := by
  unfold Obligations.FlagUnit
  intro p f g x
  exact ⟨rfl, rfl, rfl, rfl, rfl, rfl, rfl, rfl, getFlag_setFlag p f g x, rfl, flagsBecome_pulledP p⟩

/-- Settles O43: both instructions assign P the byte pulled from the state at the start of the step, under `pulledP`. -/
theorem pullInvariantHolds : Obligations.PullInvariantHolds := by
  unfold Obligations.PullInvariantHolds
  intro s
  have hset : PullBitsSet (pulledP s.pull.1) := pullBitsSet_pulledP _
  refine ⟨_, _, rfl, rfl, rfl, rfl, hset.1, hset.2, fun f hf => ?_⟩
  have hkept : getFlag (pulledP s.pull.1) f = getFlag s.pull.1 f := by
    rw [getFlag_pulledP, if_neg]
    rintro (rfl | rfl) <;> simp at hf
  exact ⟨hkept, hkept⟩

end Sys2Proof.Machine
end

section
/-! PROOF. `exec_shape` for every state at once, for statements about two runs of one instruction: the form, the operand and
the semantics do not depend on the state. -/

namespace Sys2Proof.Machine

open Sys2Proof.Claims

/-- The shapes of an instruction's meaning as a function of the state. A `write` stores a register; a branch tests one flag,
which has the branch among its readers (10_state.md R33). -/
inductive UniformShape (i : Instr) : Prop where
  | read {o sem} (hsem : ReadSem (mnemonic i) sem) (hexec : ∀ s, exec i s = runRead i o sem s)
  | write {m} {reg : State → Byte} (hreg : reg ∈ [State.ac, State.ix, State.iy])
      (hexec : ∀ s, exec i s = runWrite i m (reg s) s)
  | rmw {o sem} (hsem : RmwSem (mnemonic i) sem) (hexec : ∀ s, exec i s = runRmw i o sem s)
  | implicit {sem} (hsem : ImplicitSem (mnemonic i) sem) (hexec : ∀ s, exec i s = runImplicit i sem s)
  | branch {off} (f : Flag) (test : Bool → Bool) (hreads : mnemonic i ∈ flagReaders f)
      (hexec : ∀ s, exec i s = runBranch i off (test (s.flag f)) s)
  | jump {o} (hexec : ∀ s, exec i s = runJump i o s)
  | call {w} (hi : i = .jsr w)
  | trap (hi : i = .brk)

/-- Every instruction has one shape for all states. -/
theorem uniformShape (i : Instr) : UniformShape i := by
  cases i
  case adcImm | adcZp | adcZpX | adcAbs | adcAbsX | adcAbsY | adcIndX | adcIndY => exact .read .ADC fun _ => rfl
  case sbcImm | sbcZp | sbcZpX | sbcAbs | sbcAbsX | sbcAbsY | sbcIndX | sbcIndY => exact .read .SBC fun _ => rfl
  case andImm | andZp | andZpX | andAbs | andAbsX | andAbsY | andIndX | andIndY => exact .read .AND fun _ => rfl
  case oraImm | oraZp | oraZpX | oraAbs | oraAbsX | oraAbsY | oraIndX | oraIndY => exact .read .ORA fun _ => rfl
  case eorImm | eorZp | eorZpX | eorAbs | eorAbsX | eorAbsY | eorIndX | eorIndY => exact .read .EOR fun _ => rfl
  case cmpImm | cmpZp | cmpZpX | cmpAbs | cmpAbsX | cmpAbsY | cmpIndX | cmpIndY => exact .read .CMP fun _ => rfl
  case cpxImm | cpxZp | cpxAbs => exact .read .CPX fun _ => rfl
  case cpyImm | cpyZp | cpyAbs => exact .read .CPY fun _ => rfl
  case bitZp | bitAbs => exact .read .BIT fun _ => rfl
  case ldaImm | ldaZp | ldaZpX | ldaAbs | ldaAbsX | ldaAbsY | ldaIndX | ldaIndY => exact .read .LDA fun _ => rfl
  case ldxImm | ldxZp | ldxZpY | ldxAbs | ldxAbsY => exact .read .LDX fun _ => rfl
  case ldyImm | ldyZp | ldyZpX | ldyAbs | ldyAbsX => exact .read .LDY fun _ => rfl
  case staZp | staZpX | staAbs | staAbsX | staAbsY | staIndX | staIndY =>
    exact .write (reg := State.ac) (by simp) fun _ => rfl
  case stxZp | stxZpY | stxAbs => exact .write (reg := State.ix) (by simp) fun _ => rfl
  case styZp | styZpX | styAbs => exact .write (reg := State.iy) (by simp) fun _ => rfl
  case aslAcc | aslZp | aslZpX | aslAbs | aslAbsX => exact .rmw .ASL fun _ => rfl
  case lsrAcc | lsrZp | lsrZpX | lsrAbs | lsrAbsX => exact .rmw .LSR fun _ => rfl
  case rolAcc | rolZp | rolZpX | rolAbs | rolAbsX => exact .rmw .ROL fun _ => rfl
  case rorAcc | rorZp | rorZpX | rorAbs | rorAbsX => exact .rmw .ROR fun _ => rfl
  case incZp | incZpX | incAbs | incAbsX => exact .rmw .INC fun _ => rfl
  case decZp | decZpX | decAbs | decAbsX => exact .rmw .DEC fun _ => rfl
  case inx => exact .implicit .INX fun _ => rfl
  case iny => exact .implicit .INY fun _ => rfl
  case dex => exact .implicit .DEX fun _ => rfl
  case dey => exact .implicit .DEY fun _ => rfl
  case pha => exact .implicit .PHA fun _ => rfl
  case php => exact .implicit .PHP fun _ => rfl
  case pla => exact .implicit .PLA fun _ => rfl
  case plp => exact .implicit .PLP fun _ => rfl
  case rts => exact .implicit .RTS fun _ => rfl
  case rti => exact .implicit .RTI fun _ => rfl
  case tax => exact .implicit .TAX fun _ => rfl
  case tay => exact .implicit .TAY fun _ => rfl
  case txa => exact .implicit .TXA fun _ => rfl
  case tya => exact .implicit .TYA fun _ => rfl
  case tsx => exact .implicit .TSX fun _ => rfl
  case txs => exact .implicit .TXS fun _ => rfl
  case clc => exact .implicit .CLC fun _ => rfl
  case sec => exact .implicit .SEC fun _ => rfl
  case cli => exact .implicit .CLI fun _ => rfl
  case sei => exact .implicit .SEI fun _ => rfl
  case clv => exact .implicit .CLV fun _ => rfl
  case cld => exact .implicit .CLD fun _ => rfl
  case sed => exact .implicit .SED fun _ => rfl
  case nop => exact .implicit .NOP fun _ => rfl
  case bpl => exact .branch .n not (by simp [mnemonic, flagReaders]) fun _ => rfl
  case bmi => exact .branch .n id (by simp [mnemonic, flagReaders]) fun _ => rfl
  case bvc => exact .branch .v not (by simp [mnemonic, flagReaders]) fun _ => rfl
  case bvs => exact .branch .v id (by simp [mnemonic, flagReaders]) fun _ => rfl
  case bcc => exact .branch .c not (by simp [mnemonic, flagReaders]) fun _ => rfl
  case bcs => exact .branch .c id (by simp [mnemonic, flagReaders]) fun _ => rfl
  case bne => exact .branch .z not (by simp [mnemonic, flagReaders]) fun _ => rfl
  case beq => exact .branch .z id (by simp [mnemonic, flagReaders]) fun _ => rfl
  case jmpAbs | jmpInd => exact .jump fun _ => rfl
  case jsr => exact .call rfl
  case brk => exact .trap rfl

end Sys2Proof.Machine
end

section
/-! PROOF. No instruction reads CYC (O15): every operation of a step commutes with a change of CYC, and the charge is the
same. -/

namespace Sys2Proof.Machine

/-! ### The operations that write memory -/

theorem State.writeByte_withCyc (s : State) (c : CycleCount) (a : Addr) (v : Byte) :
    (s.withCyc c).writeByte a v = (s.writeByte a v).withCyc c := by
  unfold State.writeByte
  rw [apply_ite (fun t : State => t.withCyc c)]
  rfl

theorem State.push_withCyc (s : State) (c : CycleCount) (v : Byte) :
    (s.withCyc c).push v = (s.push v).withCyc c :=
  congrArg (fun t : State => t.withSp (s.sp - 1)) (s.writeByte_withCyc c _ v)

theorem State.push16_withCyc (s : State) (c : CycleCount) (w : Addr) :
    (s.withCyc c).push16 w = (s.push16 w).withCyc c := by
  simp only [State.push16_eq, State.push_withCyc]

theorem State.takeTrap_withCyc (s : State) (c : CycleCount) (ret : Addr) :
    (s.withCyc c).takeTrap ret = (s.takeTrap ret).withCyc c := by
  rw [State.takeTrap_eq, State.push16_withCyc, State.push_withCyc, State.takeTrap_eq]
  rfl

theorem RmwTarget.store_withCyc (o : RmwTarget) (s₀ s : State) (c : CycleCount) (v : Byte) :
    o.store s₀ (s.withCyc c) v = (o.store s₀ s v).withCyc c := by
  cases o with
  | accumulator => rfl
  | memory m => exact s.writeByte_withCyc c _ v

theorem State.charge_zero (s : State) : s.charge 0 = s := by simp [State.charge, State.withCyc]

/-! ### The semantics of each shape of instruction -/

theorem ReadSem.withCyc {m : Mnemonic} {sem : Byte → State → State} (hsem : ReadSem m sem) (v : Byte) (s : State)
    (c : CycleCount) : sem v (s.withCyc c) = (sem v s).withCyc c := by
  cases hsem <;> rfl

theorem ImplicitSem.withCyc {m : Mnemonic} {sem : State → State} (hsem : ImplicitSem m sem) (s : State)
    (c : CycleCount) : sem (s.withCyc c) = (sem s).withCyc c := by
  cases hsem
  case PHA => exact s.push_withCyc c s.ac
  case PHP => exact s.push_withCyc c s.p
  all_goals rfl

/-! ### The instruction and the step -/

/-- An instruction's outcome before the charge, and the charge, are the same for every value of CYC. -/
theorem exec_withCyc (i : Instr) (s : State) :
    ∃ (t : State) (n : Nat), ∀ c, exec i (s.withCyc c) = .next ((t.withCyc c).charge n) := by
  cases uniformShape i with
  | @read o sem hsem hexec =>
    refine ⟨sem (o.value s) (s.advance o.length), cost i (o.crossed s) false, fun c => ?_⟩
    rw [hexec, ← hsem.withCyc]
    rfl
  | @write m reg hreg hexec =>
    refine ⟨(s.advance m.length).writeByte (m.ea s) (reg s), cost i (m.crossed s) false, fun c => ?_⟩
    have hval : reg (s.withCyc c) = reg s := by
      fin_cases hreg <;> rfl
    rw [hexec, hval, ← State.writeByte_withCyc]
    rfl
  | @rmw o sem hsem hexec =>
    refine ⟨o.store s ((s.advance o.length).withP (sem (o.value s) s.p).2) (sem (o.value s) s.p).1,
      cost i (o.crossed s) false, fun c => ?_⟩
    rw [hexec, ← RmwTarget.store_withCyc]
    cases o <;> rfl
  | @implicit sem hsem hexec =>
    refine ⟨sem (s.advance 1), cost i false false, fun c => ?_⟩
    rw [hexec, ← hsem.withCyc]
    rfl
  | @branch off f test hreads hexec =>
    exact ⟨s.withPc (if test (s.flag f) then branchTarget off s else branchNext s),
      cost i (hi (branchTarget off s) != hi (branchNext s)) (test (s.flag f)), fun c => hexec _⟩
  | @jump o hexec => exact ⟨s.withPc (o.target s), cost i false false, fun c => hexec _⟩
  | @call w hi =>
    subst hi
    refine ⟨(s.push16 (s.pc + 2)).withPc w, cost (.jsr w) false false, fun c => ?_⟩
    exact congrArg (fun t : State => Host.Outcome.next ((t.withPc w).charge (cost (.jsr w) false false)))
      (s.push16_withCyc c (s.pc + 2))
  | trap hi =>
    subst hi
    refine ⟨s.takeTrap (s.pc + 2), cost .brk false false, fun c => ?_⟩
    exact congrArg (fun t : State => Host.Outcome.next (t.charge (cost .brk false false)))
      (s.takeTrap_withCyc c (s.pc + 2))

/-- A step's outcome before the charge, and the charge, are the same for every value of CYC; a halt charges nothing. -/
theorem step_withCyc (s : State) :
    ∃ (t : State) (n : Nat), ∀ c, step (s.withCyc c) = .next ((t.withCyc c).charge n) := by
  rcases step_cases s with ⟨hh, -⟩ | ⟨hh, hf, -⟩ | ⟨hh, i, hf, -⟩
  · refine ⟨s, 0, fun c => ?_⟩
    rw [State.charge_zero]
    exact step_halted (s := s.withCyc c) hh
  · refine ⟨s.raiseIllegal s.pc (fetchOpcode s), 0, fun c => ?_⟩
    rw [State.charge_zero]
    exact step_illegal (s := s.withCyc c) hh hf
  · obtain ⟨t, n, h⟩ := exec_withCyc i s
    exact ⟨t, n, fun c => (step_exec (s := s.withCyc c) hh hf).trans (h c)⟩

/-- Settles O15: the two steps are those with CYC at `s.cyc` and at `c`. -/
theorem cycleCounterReadByNothing : Obligations.CycleCounterReadByNothing := by
  unfold Obligations.CycleCounterReadByNothing
  intro s c
  obtain ⟨t, n, h⟩ := step_withCyc s
  exact ⟨_, _, BitVec.ofNat 64 n, h s.cyc, h c, rfl, rfl⟩

end Sys2Proof.Machine
end

section
/-! PROOF. Two P bytes that agree outside a list of flags: what each flag operation writes, and that it keeps an agreement. -/

namespace Sys2Proof.Machine

/-- `p'` has the flags of `p`, but for the listed ones. -/
def AgreeOutside (fs : List Flag) (p p' : Byte) : Prop := ∀ g, g ∉ fs → getFlag p' g = getFlag p g

/-! ### What each flag operation writes -/

theorem agreeOutside_setFlag (p : Byte) (f : Flag) (x : Bool) : AgreeOutside [f] p (setFlag p f x) := fun g hg => by
  simp_all

theorem agreeOutside_setNZ (p v : Byte) : AgreeOutside [.n, .z] p (setNZ p v) := fun g hg => by
  simp_all

theorem agreeOutside_setNZC (p r : Byte) (c : Bool) : AgreeOutside [.n, .z, .c] p (setNZC p r c) := fun g hg => by
  simp_all

theorem agreeOutside_setNVZC (p : Byte) (n v z c : Bool) :
    AgreeOutside [.n, .v, .z, .c] p (setNVZC p n v z c) := fun g hg => by
  simp_all

theorem agreeOutside_bitTestFlags (p ac m : Byte) :
    AgreeOutside [.n, .v, .z] p (bitTestFlags p ac m) := fun g hg => by
  simp_all

/-- ADC writes P by `setNVZC` in both modes. -/
theorem adcResult_p (p a m : Byte) : ∃ n v z c, (adcResult p a m).2 = setNVZC p n v z c := by
  unfold adcResult
  dsimp only
  split
  · exact ⟨_, _, _, _, rfl⟩
  · exact ⟨_, _, _, _, rfl⟩

theorem agreeOutside_adcResult (p a m : Byte) : AgreeOutside [.n, .v, .z, .c] p (adcResult p a m).2 := by
  obtain ⟨n, v, z, c, hp⟩ := adcResult_p p a m
  exact hp ▸ agreeOutside_setNVZC p n v z c

theorem agreeOutside_sbcResult (p a m : Byte) : AgreeOutside [.n, .v, .z, .c] p (sbcResult p a m).2 :=
  agreeOutside_setNVZC _ _ _ _ _

/-! ### Each flag operation keeps an agreement -/

section
variable {fs : List Flag} {p p' : Byte} (h : AgreeOutside fs p p')
include h

theorem AgreeOutside.setFlag (f : Flag) (x : Bool) : AgreeOutside fs (setFlag p f x) (setFlag p' f x) := fun g hg => by
  simp [h g hg]

theorem AgreeOutside.setNZ (v : Byte) : AgreeOutside fs (setNZ p v) (setNZ p' v) := (h.setFlag _ _).setFlag _ _

theorem AgreeOutside.setNZC (r : Byte) (c : Bool) : AgreeOutside fs (setNZC p r c) (setNZC p' r c) :=
  (h.setNZ r).setFlag _ _

theorem AgreeOutside.setNVZC (n v z c : Bool) : AgreeOutside fs (setNVZC p n v z c) (setNVZC p' n v z c) :=
  (((h.setFlag _ _).setFlag _ _).setFlag _ _).setFlag _ _

theorem AgreeOutside.bitTestFlags (ac m : Byte) : AgreeOutside fs (bitTestFlags p ac m) (bitTestFlags p' ac m) :=
  ((h.setFlag _ _).setFlag _ _).setFlag _ _

/-- ADC reads C and D and no other flag (10_state.md R33). -/
theorem AgreeOutside.adcResult (hc : .c ∉ fs) (hd : .d ∉ fs) (a m : Byte) :
    (adcResult p' a m).1 = (adcResult p a m).1 ∧ AgreeOutside fs (adcResult p a m).2 (adcResult p' a m).2 := by
  unfold Machine.adcResult
  dsimp only
  rw [h .c hc, h .d hd]
  split
  · exact ⟨rfl, h.setNVZC _ _ _ _⟩
  · exact ⟨rfl, h.setNVZC _ _ _ _⟩

/-- SBC reads C and D and no other flag (10_state.md R33). -/
theorem AgreeOutside.sbcResult (hc : .c ∉ fs) (hd : .d ∉ fs) (a m : Byte) :
    (sbcResult p' a m).1 = (sbcResult p a m).1 ∧ AgreeOutside fs (sbcResult p a m).2 (sbcResult p' a m).2 := by
  unfold Machine.sbcResult
  dsimp only
  rw [h .c hc, h .d hd]
  exact ⟨rfl, h.setNVZC _ _ _ _⟩

end

end Sys2Proof.Machine
end

section
/-! PROOF. The instructions outside a flag's writer column keep the flag (O17). -/

namespace Sys2Proof.Machine

open Sys2Proof.Claims

/-- Where every flag an instruction writes lists it as a writer, a flag that does not list it is kept. -/
theorem AgreeOutside.keeps {fs : List Flag} {p p' : Byte} (h : AgreeOutside fs p p') {m : Mnemonic}
    (hw : ∀ g ∈ fs, m ∈ flagWriters g) {f : Flag} (hf : m ∉ flagWriters f) : getFlag p' f = getFlag p f :=
  h f fun hmem => hf (hw f hmem)

/-- The two pulls of P are writers of every flag. -/
theorem mem_flagWriters_pull (f : Flag) : .PLP ∈ flagWriters f ∧ .RTI ∈ flagWriters f := by
  cases f <;> decide

section
variable {m : Mnemonic} {f : Flag} (hf : m ∉ flagWriters f)
include hf

theorem ReadSem.keeps_flag {sem : Byte → State → State} (hsem : ReadSem m sem) (v : Byte) (s : State) :
    (sem v s).flag f = s.flag f := by
  cases hsem with
  | ADC => exact (agreeOutside_adcResult _ _ _).keeps (by decide) hf
  | SBC => exact (agreeOutside_sbcResult _ _ _).keeps (by decide) hf
  | AND | ORA | EOR | LDA | LDX | LDY => exact (agreeOutside_setNZ _ _).keeps (by decide) hf
  | CMP | CPX | CPY => exact (agreeOutside_setNZC _ _ _).keeps (by decide) hf
  | BIT => exact (agreeOutside_bitTestFlags _ _ _).keeps (by decide) hf

theorem RmwSem.keeps_flag {sem : Byte → Byte → Byte × Byte} (hsem : RmwSem m sem) (v p : Byte) :
    getFlag (sem v p).2 f = getFlag p f := by
  cases hsem with
  | ASL | LSR | ROL | ROR => exact (agreeOutside_setNZC _ _ _).keeps (by decide) hf
  | INC | DEC => exact (agreeOutside_setNZ _ _).keeps (by decide) hf

theorem ImplicitSem.keeps_flag {sem : State → State} (hsem : ImplicitSem m sem) (s : State) :
    (sem s).flag f = s.flag f := by
  cases hsem with
  | INX | INY | DEX | DEY | PLA | TAX | TAY | TXA | TYA | TSX =>
    exact (agreeOutside_setNZ _ _).keeps (by decide) hf
  | CLC | SEC | CLI | SEI | CLV | CLD | SED => exact (agreeOutside_setFlag _ _ _).keeps (by decide) hf
  | PHA | PHP => exact congrArg (getFlag · f) (State.push_p _ _)
  | TXS | NOP | RTS => rfl
  | PLP => exact absurd (mem_flagWriters_pull f).1 hf
  | RTI => exact absurd (mem_flagWriters_pull f).2 hf

end

theorem RmwTarget.store_p (o : RmwTarget) (s₀ s : State) (v : Byte) : (o.store s₀ s v).p = s.p := by
  cases o with
  | accumulator => rfl
  | memory m => exact State.writeByte_p _ _ _

theorem State.takeTrap_p (s : State) (ret : Addr) : (s.takeTrap ret).p = setFlag s.p .i true := by
  simp [State.takeTrap_eq]

/-- Settles O17, shape by shape: a store, a branch, a jump and a call leave P as it is, BRK writes I. -/
theorem onlyListedInstructionsWriteFlags : Obligations.OnlyListedInstructionsWriteFlags := by
  unfold Obligations.OnlyListedInstructionsWriteFlags
  intro i f s hf
  have hshape := exec_shape i s
  generalize exec i s = out at hshape ⊢
  cases hshape with
  | read hsem => exact ⟨_, rfl, hsem.keeps_flag hf _ (s.advance _)⟩
  | write hsem => exact ⟨_, rfl, congrArg (getFlag · f) (State.writeByte_p _ _ _)⟩
  | rmw hsem hacc =>
    exact ⟨_, rfl, (congrArg (getFlag · f) (RmwTarget.store_p _ _ _ _)).trans (hsem.keeps_flag hf _ s.p)⟩
  | implicit hsem => exact ⟨_, rfl, hsem.keeps_flag hf (s.advance 1)⟩
  | branch hsem => exact ⟨_, rfl, rfl⟩
  | jump hi => exact ⟨_, rfl, rfl⟩
  | call hi => exact ⟨_, rfl, by simp [State.flag]⟩
  | trap hi =>
    subst hi
    have hp : getFlag (setFlag s.p .i true) f = getFlag s.p f :=
      (agreeOutside_setFlag s.p .i true).keeps (by decide) hf
    exact ⟨_, rfl, by simp only [State.flag, State.charge_p, State.takeTrap_p, hp]⟩

end Sys2Proof.Machine
end

section
/-! PROOF. The instructions outside a flag's reader column do not depend on the flag (O18): two states that differ in that
flag alone go on to differ in it at most. -/

namespace Sys2Proof.Machine

open Sys2Proof.Claims

/-! ### The operations that write memory do not look at P -/

theorem State.writeByte_withP (s : State) (p : Byte) (a : Addr) (v : Byte) :
    (s.withP p).writeByte a v = (s.writeByte a v).withP p := by
  unfold State.writeByte
  rw [apply_ite (fun t : State => t.withP p)]
  rfl

theorem State.push_withP (s : State) (p v : Byte) : (s.withP p).push v = (s.push v).withP p :=
  congrArg (fun t : State => t.withSp (s.sp - 1)) (s.writeByte_withP p _ v)

/-! ### Two states that differ in one flag at most -/

/-- `t` is `s` but for P, and the two P bytes agree outside `f`. -/
def State.AgreeBut (f : Flag) (s t : State) : Prop := ∃ p, t = s.withP p ∧ AgreeOutside [f] s.p p

theorem State.AgreeBut.refl (f : Flag) (s : State) : s.AgreeBut f s := ⟨s.p, rfl, fun _ _ => rfl⟩

theorem State.agreeBut_withP (s : State) {f : Flag} {p p' : Byte} (hp : AgreeOutside [f] p p') :
    (s.withP p).AgreeBut f (s.withP p') := ⟨p', rfl, hp⟩

section
variable {f : Flag} {s t : State} (h : s.AgreeBut f t)
include h

theorem State.AgreeBut.withPc (a : Addr) : (s.withPc a).AgreeBut f (t.withPc a) := by
  obtain ⟨p, rfl, hp⟩ := h
  exact ⟨p, rfl, hp⟩

theorem State.AgreeBut.charge (n : Nat) : (s.charge n).AgreeBut f (t.charge n) := by
  obtain ⟨p, rfl, hp⟩ := h
  exact ⟨p, rfl, hp⟩

theorem State.AgreeBut.writeByte (a : Addr) (v : Byte) : (s.writeByte a v).AgreeBut f (t.writeByte a v) := by
  obtain ⟨p, rfl, hp⟩ := h
  exact ⟨p, s.writeByte_withP p a v, (s.writeByte_p a v).symm ▸ hp⟩

theorem State.AgreeBut.push (v : Byte) : (s.push v).AgreeBut f (t.push v) := by
  obtain ⟨p, rfl, hp⟩ := h
  exact ⟨p, s.push_withP p v, (s.push_p v).symm ▸ hp⟩

theorem State.AgreeBut.push16 (w : Addr) : (s.push16 w).AgreeBut f (t.push16 w) := (h.push _).push _

theorem State.AgreeBut.rmwStore (o : RmwTarget) (s₀ : State) (v : Byte) :
    (o.store s₀ s v).AgreeBut f (o.store s₀ t v) := by
  cases o with
  | accumulator =>
    obtain ⟨p, rfl, hp⟩ := h
    exact ⟨p, rfl, hp⟩
  | memory m => exact h.writeByte _ v

end

/-- Agreement but for `f`, as the statement writes it. -/
theorem State.AgreeBut.eq_withFlag {f : Flag} {s t : State} (h : s.AgreeBut f t) : t = s.withFlag f (t.flag f) := by
  obtain ⟨p, rfl, hp⟩ := h
  refine congrArg s.withP (eq_of_flags fun g => ?_)
  rw [getFlag_setFlag]
  split
  · next hg => rw [hg]; rfl
  · next hg => exact hp g (by simpa using hg)

/-- A flag that `m` reads is not `f`, where `f` does not list `m` as a reader. -/
theorem notMem_singleton_of_reader {m : Mnemonic} {f g : Flag} (hf : m ∉ flagReaders f) (hg : m ∈ flagReaders g) :
    g ∉ [f] := by
  rw [List.mem_singleton]
  rintro rfl
  exact hf hg

/-- The two pushes of P are readers of every flag. -/
theorem mem_flagReaders_push (f : Flag) : .PHP ∈ flagReaders f ∧ .BRK ∈ flagReaders f := by
  cases f <;> decide

/-! ### The semantics of each shape of instruction -/

section
variable {m : Mnemonic} {f : Flag} (hf : m ∉ flagReaders f)
include hf

theorem ReadSem.agreeBut {sem : Byte → State → State} (hsem : ReadSem m sem) (v : Byte) {s : State} {p : Byte}
    (hp : AgreeOutside [f] s.p p) : (sem v s).AgreeBut f (sem v (s.withP p)) := by
  cases hsem with
  | ADC =>
    obtain ⟨hac, hflags⟩ := hp.adcResult (notMem_singleton_of_reader hf (by decide))
      (notMem_singleton_of_reader hf (by decide)) s.ac v
    exact ⟨_, congrArg (fun a => (s.withAc a).withP _) hac, hflags⟩
  | SBC =>
    obtain ⟨hac, hflags⟩ := hp.sbcResult (notMem_singleton_of_reader hf (by decide))
      (notMem_singleton_of_reader hf (by decide)) s.ac v
    exact ⟨_, congrArg (fun a => (s.withAc a).withP _) hac, hflags⟩
  | AND | ORA | EOR | LDA | LDX | LDY => exact ⟨_, rfl, hp.setNZ _⟩
  | CMP | CPX | CPY => exact ⟨_, rfl, hp.setNZC _ _⟩
  | BIT => exact ⟨_, rfl, hp.bitTestFlags _ _⟩

theorem RmwSem.agreeOutside {sem : Byte → Byte → Byte × Byte} (hsem : RmwSem m sem) (v : Byte) {p p' : Byte}
    (hp : AgreeOutside [f] p p') : (sem v p').1 = (sem v p).1 ∧ AgreeOutside [f] (sem v p).2 (sem v p').2 := by
  cases hsem with
  | ASL | LSR => exact ⟨rfl, hp.setNZC _ _⟩
  | ROL =>
    unfold rolResult
    rw [hp .c (notMem_singleton_of_reader hf (by decide))]
    exact ⟨rfl, hp.setNZC _ _⟩
  | ROR =>
    unfold rorResult
    rw [hp .c (notMem_singleton_of_reader hf (by decide))]
    exact ⟨rfl, hp.setNZC _ _⟩
  | INC | DEC => exact ⟨rfl, hp.setNZ _⟩

theorem ImplicitSem.agreeBut {sem : State → State} (hsem : ImplicitSem m sem) {s : State} {p : Byte}
    (hp : AgreeOutside [f] s.p p) : (sem s).AgreeBut f (sem (s.withP p)) := by
  cases hsem with
  | INX | INY | DEX | DEY | PLA | TAX | TAY | TXA | TYA | TSX => exact ⟨_, rfl, hp.setNZ _⟩
  | CLC | SEC | CLI | SEI | CLV | CLD | SED => exact ⟨_, rfl, hp.setFlag _ _⟩
  | TXS | NOP | RTS => exact ⟨p, rfl, hp⟩
  | PLP => exact .refl f _
  | RTI =>
    rw [State.returnFromTrap_eq, State.returnFromTrap_eq]
    exact .refl f _
  | PHA => exact (s.agreeBut_withP hp).push s.ac
  | PHP => exact absurd (mem_flagReaders_push f).1 hf

end

/-- An instruction that does not read `f`, run on two states that agree but for `f`, ends in two that agree but for `f`. -/
theorem exec_agreeBut {i : Instr} {f : Flag} (hf : mnemonic i ∉ flagReaders f) {s : State} {p : Byte}
    (hp : AgreeOutside [f] s.p p) :
    ∃ t t', exec i s = .next t ∧ exec i (s.withP p) = .next t' ∧ t.AgreeBut f t' := by
  have hadvance (n : Nat) : (s.advance n).AgreeBut f ((s.advance n).withP p) := ⟨p, rfl, hp⟩
  cases uniformShape i with
  | @read o sem hsem hexec =>
    exact ⟨_, _, hexec s, hexec _, (hsem.agreeBut hf (o.value s) (s := s.advance o.length) hp).charge _⟩
  | @write m reg hreg hexec =>
    have hval : reg (s.withP p) = reg s := by
      fin_cases hreg <;> rfl
    refine ⟨_, _, hexec s, (hexec _).trans ?_, ((hadvance m.length).writeByte (m.ea s) (reg s)).charge _⟩
    rw [hval]
    rfl
  | @rmw o sem hsem hexec =>
    have hvalue : o.value (s.withP p) = o.value s := by
      cases o <;> rfl
    obtain ⟨hr, hflags⟩ := hsem.agreeOutside hf (o.value s) hp
    have hstore := (State.agreeBut_withP (s.advance o.length) hflags).rmwStore o s (sem (o.value s) s.p).1
    refine ⟨_, _, hexec s, (hexec _).trans ?_, hstore.charge _⟩
    rw [runRmw_eq, hvalue, State.withP_p, hr]
    cases o <;> rfl
  | @implicit sem hsem hexec =>
    exact ⟨_, _, hexec s, hexec _, (hsem.agreeBut hf (s := s.advance 1) hp).charge _⟩
  | @branch off g test hreads hexec =>
    have hflag : (s.withP p).flag g = s.flag g := hp g (notMem_singleton_of_reader hf hreads)
    refine ⟨_, _, hexec s, hexec _, ?_⟩
    rw [hflag]
    exact ⟨p, rfl, hp⟩
  | jump hexec => exact ⟨_, _, hexec s, hexec _, p, rfl, hp⟩
  | @call w hi =>
    subst hi
    exact ⟨_, _, rfl, rfl, (((s.agreeBut_withP hp).push16 (s.pc + 2)).withPc w).charge _⟩
  | trap hi =>
    subst hi
    exact absurd (mem_flagReaders_push f).2 hf

/-- Settles O18: the second run starts from the first's state with one flag assigned. -/
theorem onlyListedInstructionsReadFlags : Obligations.OnlyListedInstructionsReadFlags := by
  unfold Obligations.OnlyListedInstructionsReadFlags
  intro i f x s hf
  obtain ⟨t, t', ht, ht', hagree⟩ := exec_agreeBut hf (agreeOutside_setFlag s.p f x)
  exact ⟨t, t', ht, ht', hagree.eq_withFlag⟩

end Sys2Proof.Machine
end

section
/-! PROOF. Each register and memory is written by its listed instructions only (O19): one lemma per shape and register. -/

namespace Sys2Proof.Machine

/-- The writers of AC (10_state.md R21), but for the Accumulator forms of the shifts and rotates. -/
def acWriters : List Mnemonic := [.ADC, .SBC, .AND, .ORA, .EOR, .PLA, .LDA, .TXA, .TYA]

/-- The writers of IX (10_state.md R22). -/
def ixWriters : List Mnemonic := [.LDX, .TAX, .TSX, .INX, .DEX]

/-- The writers of IY (10_state.md R23). -/
def iyWriters : List Mnemonic := [.LDY, .TAY, .INY, .DEY]

/-- The writers of SP (10_state.md R24). -/
def spWriters : List Mnemonic := [.PHA, .PHP, .PLA, .PLP, .JSR, .RTS, .BRK, .RTI, .TXS]

/-- The writers of memory (20_memory.md R66; 40_pipeline_addressing.md R102). -/
def memWriters : List Mnemonic := [.STA, .STX, .STY, .ASL, .LSR, .ROL, .ROR, .INC, .DEC, .PHA, .PHP, .JSR, .BRK]

/-- The Accumulator forms, which write AC too (10_state.md R21). -/
def accumulatorForms : List Instr := [.aslAcc, .lsrAcc, .rolAcc, .rorAcc]

/-- Each register and memory is in `t` as in `s` or lists `m`, the mnemonic of `i`, as a writer. -/
structure WritesListed (i : Instr) (m : Mnemonic) (s t : State) : Prop where
  ac : m ∈ acWriters ∨ i ∈ accumulatorForms ∨ t.ac = s.ac
  ix : m ∈ ixWriters ∨ t.ix = s.ix
  iy : m ∈ iyWriters ∨ t.iy = s.iy
  sp : m ∈ spWriters ∨ t.sp = s.sp
  mem : m ∈ memWriters ∨ t.mem = s.mem

section
variable {m : Mnemonic} (i : Instr) (s : State)

theorem ReadSem.writesListed {sem : Byte → State → State} (hsem : ReadSem m sem) (v : Byte) :
    WritesListed i m s (sem v s) := by
  cases hsem with
  | ADC | SBC | AND | ORA | EOR | LDA => exact ⟨.inl (by decide), .inr rfl, .inr rfl, .inr rfl, .inr rfl⟩
  | LDX => exact ⟨.inr (.inr rfl), .inl (by decide), .inr rfl, .inr rfl, .inr rfl⟩
  | LDY => exact ⟨.inr (.inr rfl), .inr rfl, .inl (by decide), .inr rfl, .inr rfl⟩
  | CMP | CPX | CPY | BIT => exact ⟨.inr (.inr rfl), .inr rfl, .inr rfl, .inr rfl, .inr rfl⟩

theorem State.push_writesListed (hsp : m ∈ spWriters) (hmem : m ∈ memWriters) (v : Byte) :
    WritesListed i m s (s.push v) :=
  ⟨.inr (.inr (s.push_ac v)), .inr (s.push_ix v), .inr (s.push_iy v), .inl hsp, .inl hmem⟩

theorem State.push16_writesListed (hsp : m ∈ spWriters) (hmem : m ∈ memWriters) (w : Addr) :
    WritesListed i m s (s.push16 w) :=
  ⟨.inr (.inr (s.push16_ac w)), .inr (s.push16_ix w), .inr (s.push16_iy w), .inl hsp, .inl hmem⟩

theorem State.takeTrap_writesListed (hsp : m ∈ spWriters) (hmem : m ∈ memWriters) (ret : Addr) :
    WritesListed i m s (s.takeTrap ret) := by
  rw [State.takeTrap_eq]
  exact ⟨.inr (.inr (by simp)), .inr (by simp), .inr (by simp), .inl hsp, .inl hmem⟩

theorem ImplicitSem.writesListed {sem : State → State} (hsem : ImplicitSem m sem) :
    WritesListed i m s (sem s) := by
  cases hsem with
  | TXA | TYA => exact ⟨.inl (by decide), .inr rfl, .inr rfl, .inr rfl, .inr rfl⟩
  | INX | DEX | TAX | TSX => exact ⟨.inr (.inr rfl), .inl (by decide), .inr rfl, .inr rfl, .inr rfl⟩
  | INY | DEY | TAY => exact ⟨.inr (.inr rfl), .inr rfl, .inl (by decide), .inr rfl, .inr rfl⟩
  | PLA => exact ⟨.inl (by decide), .inr rfl, .inr rfl, .inl (by decide), .inr rfl⟩
  | PLP | RTS | TXS => exact ⟨.inr (.inr rfl), .inr rfl, .inr rfl, .inl (by decide), .inr rfl⟩
  | RTI =>
    rw [State.returnFromTrap_eq]
    exact ⟨.inr (.inr rfl), .inr rfl, .inr rfl, .inl (by decide), .inr rfl⟩
  | PHA | PHP => exact s.push_writesListed i (by decide) (by decide) _
  | CLC | SEC | CLI | SEI | CLV | CLD | SED | NOP =>
    exact ⟨.inr (.inr rfl), .inr rfl, .inr rfl, .inr rfl, .inr rfl⟩

theorem State.writeByte_writesListed (hmem : m ∈ memWriters) (a : Addr) (v : Byte) :
    WritesListed i m s (s.writeByte a v) :=
  ⟨.inr (.inr (s.writeByte_ac a v)), .inr (s.writeByte_ix a v), .inr (s.writeByte_iy a v),
    .inr (s.writeByte_sp a v), .inl hmem⟩

theorem RmwTarget.store_writesListed (o : RmwTarget) (hmem : m ∈ memWriters)
    (hacc : o = .accumulator → i ∈ accumulatorForms) (s₀ : State) (v : Byte) :
    WritesListed i m s (o.store s₀ s v) := by
  cases o with
  | accumulator => exact ⟨.inr (.inl (hacc rfl)), .inr rfl, .inr rfl, .inr rfl, .inr rfl⟩
  | memory mode => exact s.writeByte_writesListed i hmem _ v

theorem WriteSem.mem_memWriters {v : Byte} (hsem : WriteSem s m v) : m ∈ memWriters := by
  cases hsem <;> decide

theorem RmwSem.mem_memWriters {sem : Byte → Byte → Byte × Byte} (hsem : RmwSem m sem) : m ∈ memWriters := by
  cases hsem <;> decide

end

/-! The move of PC and the charge write none of the registers, nor memory. -/

section
variable {i : Instr} {m : Mnemonic} {s t : State}

theorem WritesListed.of_advance {k : Nat} (h : WritesListed i m (s.advance k) t) : WritesListed i m s t :=
  ⟨h.ac, h.ix, h.iy, h.sp, h.mem⟩

theorem WritesListed.withPc (h : WritesListed i m s t) (a : Addr) : WritesListed i m s (t.withPc a) :=
  ⟨h.ac, h.ix, h.iy, h.sp, h.mem⟩

theorem WritesListed.charge (h : WritesListed i m s t) (n : Nat) : WritesListed i m s (t.charge n) :=
  ⟨h.ac, h.ix, h.iy, h.sp, h.mem⟩

end

/-- Every instruction completes and writes of the registers and memory those that list it only. -/
theorem exec_writesListed (i : Instr) (s : State) : ∃ t, exec i s = .next t ∧ WritesListed i (mnemonic i) s t := by
  have hshape := exec_shape i s
  generalize exec i s = out at hshape ⊢
  cases hshape with
  | read hsem => exact ⟨_, rfl, (hsem.writesListed i (s.advance _) _).of_advance.charge _⟩
  | write hsem => exact ⟨_, rfl, ((s.advance _).writeByte_writesListed i hsem.mem_memWriters _ _).of_advance.charge _⟩
  | @rmw o sem hsem hacc =>
    obtain ⟨hac, hix, hiy, hsp, hmem⟩ :=
      o.store_writesListed i ((s.advance o.length).withP (sem (o.value s) s.p).2) hsem.mem_memWriters hacc s
        (sem (o.value s) s.p).1
    exact ⟨_, rfl, hac, hix, hiy, hsp, hmem⟩
  | implicit hsem => exact ⟨_, rfl, (hsem.writesListed i (s.advance 1)).of_advance.charge _⟩
  | branch hsem => exact ⟨_, rfl, .inr (.inr rfl), .inr rfl, .inr rfl, .inr rfl, .inr rfl⟩
  | jump hi => exact ⟨_, rfl, .inr (.inr rfl), .inr rfl, .inr rfl, .inr rfl, .inr rfl⟩
  | call hi =>
    subst hi
    exact ⟨_, rfl, ((s.push16_writesListed (m := .JSR) _ (by decide) (by decide) _).withPc _).charge _⟩
  | trap hi =>
    subst hi
    exact ⟨_, rfl, (s.takeTrap_writesListed _ (by decide) (by decide) _).charge _⟩

/-- Settles O19: the registers and memory by `exec_writesListed`, the halt report and programming mode by `exec_frame`. -/
theorem onlyListedInstructionsWriteRegisters : Obligations.OnlyListedInstructionsWriteRegisters := by
  unfold Obligations.OnlyListedInstructionsWriteRegisters
  intro i s
  obtain ⟨t, ht, hw⟩ := exec_writesListed i s
  obtain ⟨t', ht', hhalt, hprog⟩ := exec_frame i s
  obtain rfl : t = t' := Host.Outcome.next.inj (ht.symm.trans ht')
  exact ⟨t, ht, fun hm hacc => (hw.ac.resolve_left hm).resolve_left hacc, hw.ix.resolve_left, hw.iy.resolve_left,
    hw.sp.resolve_left, hw.mem.resolve_left, hhalt, hprog⟩

end Sys2Proof.Machine
end

section
/-! PROOF. The protectable region in a run outside programming mode (O14): no write of any shape of instruction reaches
it. -/

namespace Sys2Proof.Machine

/-- Every byte of 0x8000..0xFFFF is in `t` as in `s`. -/
def State.SameProtected (s t : State) : Prop := ∀ a : Addr, 0x7FFF < a → t.readByte a = s.readByte a

theorem State.SameProtected.trans {s t u : State} (h : s.SameProtected t) (h' : t.SameProtected u) :
    s.SameProtected u := fun a ha => (h' a ha).trans (h a ha)

theorem State.sameProtected_of_mem {s t : State} (h : t.mem = s.mem) : s.SameProtected t := fun a _ =>
  congrArg (fun m => m.read a.toNat) h

/-- Outside programming mode no cell of the protectable region is writable (20_memory.md R53). -/
theorem State.not_writable_of_protected {s : State} {a : Addr} (ha : 0x7FFF < a) (hprog : s.progMode = false) :
    ¬ s.writable a = true := fun hw => by
  rcases (s.writable_iff a).1 hw with hlow | htrue
  · exact BitVec.not_le.2 ha hlow
  · exact Bool.noConfusion (hprog.symm.trans htrue)

theorem State.sameProtected_writeByte {s : State} (hprog : s.progMode = false) (a : Addr) (v : Byte) :
    s.SameProtected (s.writeByte a v) := fun x hx => by
  rw [State.readByte_writeByte, if_neg]
  rintro ⟨rfl, hw⟩
  exact State.not_writable_of_protected hx hprog hw

/-- The stack window lies below the protectable region (20_memory.md R59). -/
theorem State.sameProtected_push (s : State) (v : Byte) : s.SameProtected (s.push v) := fun x hx => by
  rw [State.readByte_push, if_neg (ne_stackAddr (.inr ?_) s.sp)]
  rw [BitVec.lt_def] at hx
  exact Nat.lt_trans (by decide) hx

theorem State.sameProtected_push16 (s : State) (w : Addr) : s.SameProtected (s.push16 w) :=
  (s.sameProtected_push _).trans (State.sameProtected_push _ _)

theorem State.sameProtected_takeTrap (s : State) (ret : Addr) : s.SameProtected (s.takeTrap ret) :=
  (s.sameProtected_push16 ret).trans (State.sameProtected_push _ s.p)

theorem RmwTarget.sameProtected_store {s : State} (hprog : s.progMode = false) (o : RmwTarget) (s₀ : State)
    (v : Byte) : s.SameProtected (o.store s₀ s v) := by
  cases o with
  | accumulator => exact State.sameProtected_of_mem rfl
  | memory mode => exact State.sameProtected_writeByte hprog _ v

theorem ReadSem.sameProtected {m : Mnemonic} {sem : Byte → State → State} (hsem : ReadSem m sem) (v : Byte)
    (s : State) : s.SameProtected (sem v s) := State.sameProtected_of_mem (by cases hsem <;> rfl)

theorem ImplicitSem.sameProtected {m : Mnemonic} {sem : State → State} (hsem : ImplicitSem m sem) (s : State) :
    s.SameProtected (sem s) := by
  cases hsem with
  | PHA | PHP => exact s.sameProtected_push _
  | RTI => exact State.sameProtected_of_mem (by rw [State.returnFromTrap_eq]; rfl)
  | _ => exact State.sameProtected_of_mem rfl

/-- Every instruction leaves the protectable region outside programming mode; the move of PC, the flags and the charge
write no memory. -/
theorem exec_keeps_protected (i : Instr) {s : State} (hprog : s.progMode = false) :
    ∃ t, exec i s = .next t ∧ s.SameProtected t := by
  have hshape := exec_shape i s
  generalize exec i s = out at hshape ⊢
  cases hshape with
  | read hsem => exact ⟨_, rfl, hsem.sameProtected _ (s.advance _)⟩
  | write hsem => exact ⟨_, rfl, State.sameProtected_writeByte (s := s.advance _) hprog _ _⟩
  | @rmw o sem hsem hacc =>
    exact ⟨_, rfl, o.sameProtected_store (s := (s.advance o.length).withP (sem (o.value s) s.p).2) hprog s _⟩
  | implicit hsem => exact ⟨_, rfl, hsem.sameProtected (s.advance 1)⟩
  | branch hsem => exact ⟨_, rfl, State.sameProtected_of_mem rfl⟩
  | jump hi => exact ⟨_, rfl, State.sameProtected_of_mem rfl⟩
  | call hi => exact ⟨_, rfl, s.sameProtected_push16 _⟩
  | trap hi => exact ⟨_, rfl, s.sameProtected_takeTrap _⟩

/-- Every step outside programming mode stays outside it and leaves the protectable region. -/
theorem step_keeps_protected {s : State} (hprog : s.progMode = false) :
    ∃ t, step s = .next t ∧ t.progMode = false ∧ s.SameProtected t := by
  rcases step_cases s with ⟨-, hs⟩ | ⟨-, -, hs⟩ | ⟨-, i, -, hs⟩
  · exact ⟨s, hs, hprog, State.sameProtected_of_mem rfl⟩
  · exact ⟨_, hs, hprog, State.sameProtected_of_mem rfl⟩
  · obtain ⟨t, ht, hsame⟩ := exec_keeps_protected i hprog
    obtain ⟨t', ht', -, hmode⟩ := exec_frame i s
    obtain rfl : t = t' := Host.Outcome.next.inj (ht.symm.trans ht')
    exact ⟨t, hs.trans ht, hmode.trans hprog, hsame⟩

/-- Settles O14, by induction on the number of steps; one step is `step_keeps_protected`. -/
theorem protectedRegionKept : Obligations.ProtectedRegionKept := by
  unfold Obligations.ProtectedRegionKept
  intro n
  induction n with
  | zero => exact fun s hprog => ⟨s, rfl, hprog, fun _ _ => rfl⟩
  | succ n ih =>
    intro s hprog
    obtain ⟨t, hstep, hmode, hsame⟩ := step_keeps_protected hprog
    obtain ⟨u, hrun, hmode', hsame'⟩ := ih t hmode
    exact ⟨u, (run_next core n hstep).trans hrun, hmode', State.SameProtected.trans hsame hsame'⟩

end Sys2Proof.Machine
end

section
/-! PROOF. The memory port: byte writes (O21), words (O22). -/

namespace Sys2Proof.Machine

open Sys2Proof.Claims

/-- Outside programming mode a write to the protectable region changes nothing (20_memory.md R53). -/
theorem State.writeByte_of_protected {s : State} {a : Addr} (ha : 0x7FFF < a) (hprog : s.progMode = false) (v : Byte) :
    s.writeByte a v = s := if_neg (State.not_writable_of_protected ha hprog)

/-- Settles O21: the cell by `memoryBecomes_writeByte`, the discarded write by `writeByte_of_protected`. -/
theorem byteWriteRule : Obligations.ByteWriteRule := by
  unfold Obligations.ByteWriteRule
  intro s a v
  exact ⟨⟨_, s.writeByte_eq_withMem a v, s.memoryBecomes_writeByte a v⟩,
    fun ha hprog => State.writeByte_of_protected ha hprog v⟩

theorem addr_succ_eq_ofNat (a : Addr) : a + 1 = BitVec.ofNat 16 ((a.toNat + 1) % 65536) :=
  BitVec.eq_of_toNat_eq (by simp)

/-- A word whose two bytes are admitted reads back (20_memory.md R54, R55). -/
theorem State.readWord_writeWord {s : State} {a : Addr} (hlo : s.writable a = true) (hhi : s.writable (a + 1) = true)
    (w : Addr) : (s.writeWord a w).readWord a = w := by
  have hne : a ≠ a + 1 := by bv_omega
  have hlow : (s.writeWord a w).readByte a = lo w := by
    rw [State.writeWord, State.readByte_writeByte, if_neg fun h => hne h.1, State.readByte_writeByte,
      if_pos ⟨rfl, hlo⟩]
  have hhigh : (s.writeWord a w).readByte (a + 1) = hi w := by
    rw [State.writeWord, State.readByte_writeByte, State.writable_writeByte, if_pos ⟨rfl, hhi⟩]
  rw [State.readWord_eq, hlow, hhigh, word_hi_lo]

/-- Settles O22: a word read is two byte reads, a word write two byte writes. -/
theorem wordAccessRule : Obligations.WordAccessRule := by
  unfold Obligations.WordAccessRule
  intro s a w
  refine ⟨?_, ⟨_, s.writeWord_eq_withMem a w, ?_⟩, fun h => ?_⟩
  · rw [← addr_succ_eq_ofNat, State.readWord_eq, word_toNat]
  · rw [← hi_eq_ofNat, ← lo_eq_ofNat]
    exact s.memoryBecomes_writeWord a w
  · refine State.readWord_writeWord ((s.writable_iff a).2 ?_) ((s.writable_iff (a + 1)).2 ?_) w
    · exact h.imp And.left id
    · exact h.imp And.right id

end Sys2Proof.Machine
end

section
/-! PROOF. The stack: pushes and pulls (O23), and the three laws of 20_memory.md R64 (O24). -/

namespace Sys2Proof.Machine

open Sys2Proof.Claims

/-- A push stores its byte in the cell SP names and nothing else (20_memory.md R60). -/
theorem State.memoryBecomes_push (s : State) (v : Byte) : MemoryBecomes s (s.push v).mem [(stackAddr s.sp, v)] :=
  s.readByte_push v

/-- Settles O23: the push by its own cell, the others by definition. -/
theorem pushPullRule : Obligations.PushPullRule := by
  unfold Obligations.PushPullRule
  intro s v w
  exact ⟨⟨_, s.push_eq v, s.memoryBecomes_push v⟩, s.pull_eq, s.push16_eq w, _, _, rfl, rfl, rfl⟩

/-- Pull16 undoes Push16: the word, and SP (20_memory.md R64). -/
theorem State.pull16_push16 (s : State) (w : Addr) :
    (s.push16 w).pull16 = (w, (s.push16 w).withSp s.sp) := by
  have hne : s.sp ≠ s.sp - 1#8 := by bv_omega
  simp [State.pull16_eq, State.readByte_push16, hne]

theorem State.push_sp_sub (s : State) (v : Byte) (k : Nat) :
    (s.push v).sp - BitVec.ofNat 8 k = s.sp - BitVec.ofNat 8 (k + 1) := by
  rw [State.push_sp]
  bv_omega

theorem pushAll_sp (s : State) (vs : List Byte) : (pushAll s vs).sp = s.sp - BitVec.ofNat 8 vs.length := by
  induction vs generalizing s with
  | nil => simp [pushAll]
  | cons v vs ih => rw [pushAll, ih, State.push_sp_sub, List.length_cons]

/-- A cell that none of the pushes names is left. -/
theorem readByte_pushAll_of_ne {s : State} {vs : List Byte} {a : Addr}
    (h : ∀ k < vs.length, a ≠ stackAddr (s.sp - BitVec.ofNat 8 k)) : (pushAll s vs).readByte a = s.readByte a := by
  induction vs generalizing s with
  | nil => rfl
  | cons v vs ih =>
    have hfirst : a ≠ stackAddr s.sp := by simpa using h 0 (Nat.succ_pos _)
    rw [pushAll, ih, State.readByte_push, if_neg hfirst]
    intro k hk
    rw [State.push_sp_sub]
    exact h (k + 1) (Nat.succ_lt_succ hk)

/-- Up to 256 pushes each hold a cell of their own, so each byte stands where its push put it. -/
theorem readByte_pushAll {s : State} {vs : List Byte} (hlen : vs.length ≤ 256) {k : Nat} (hk : k < vs.length) :
    (pushAll s vs).readByte (stackAddr (s.sp - BitVec.ofNat 8 k)) = vs.getD k 0 := by
  induction vs generalizing s k with
  | nil => exact absurd hk (Nat.not_lt_zero k)
  | cons v vs ih =>
    rw [List.length_cons] at hlen hk
    cases k with
    | zero =>
      have hkept : ∀ j < vs.length, stackAddr s.sp ≠ stackAddr ((s.push v).sp - BitVec.ofNat 8 j) := by
        intro j hj
        rw [Ne, stackAddr_inj, State.push_sp]
        bv_omega
      simp [pushAll, readByte_pushAll_of_ne hkept, State.readByte_push]
    | succ k =>
      rw [pushAll, ← State.push_sp_sub s v k, List.getD_cons_succ]
      exact ih (Nat.le_of_succ_le hlen) (Nat.lt_of_succ_lt_succ hk)

/-- Settles O24, law by law. -/
theorem stackLaws : Obligations.StackLaws := by
  unfold Obligations.StackLaws
  intro s
  refine ⟨fun w => ?_, fun vs hlen => ⟨?_, fun a ha => ?_, fun k hk => ?_⟩, fun w hsp => ⟨?_, ?_, ?_⟩⟩
  · rw [State.pull16_push16]
    exact ⟨rfl, rfl⟩
  · rw [pushAll_sp, hlen]
    exact BitVec.sub_zero _
  · refine readByte_pushAll_of_ne fun k _ => ne_stackAddr ?_ _
    simpa [BitVec.lt_def] using ha
  · exact readByte_pushAll (Nat.le_of_eq hlen) (hlen.symm ▸ hk)
  · rw [State.readByte_push16, hsp]
    rfl
  · rw [State.readByte_push16, hsp]
    rfl
  · rw [State.push16_sp, hsp]
    rfl

end Sys2Proof.Machine
end

section
/-! PROOF. Placing bytes in memory and the boot of an image (O58). -/

namespace Sys2Proof.Machine

theorem addr_succ_add (a : Addr) (k : Nat) : a + 1 + BitVec.ofNat 16 k = a + BitVec.ofNat 16 (k + 1) := by
  bv_omega

/-- A cell that none of the placed bytes is stored at is left. -/
theorem read_placeBytes_of_ne {m : Memory} {a : Addr} {bytes : List Byte} {x : Nat}
    (h : ∀ k < bytes.length, x ≠ (a + BitVec.ofNat 16 k).toNat) : (placeBytes m a bytes).read x = m.read x := by
  induction bytes generalizing m a with
  | nil => rfl
  | cons v rest ih =>
    have hfirst : x ≠ a.toNat := by simpa using h 0 (Nat.succ_pos _)
    rw [placeBytes, ih, Memory.read_write, if_neg hfirst]
    intro k hk
    rw [addr_succ_add]
    exact h (k + 1) (Nat.succ_lt_succ hk)

/-- Up to 65536 bytes each have a cell of their own, so each stands where it was placed. -/
theorem read_placeBytes {m : Memory} {a : Addr} {bytes : List Byte} (hlen : bytes.length ≤ 65536) {k : Nat}
    (hk : k < bytes.length) : (placeBytes m a bytes).read (a + BitVec.ofNat 16 k).toNat = bytes.getD k 0 := by
  induction bytes generalizing m a k with
  | nil => exact absurd hk (Nat.not_lt_zero k)
  | cons v rest ih =>
    rw [List.length_cons] at hlen hk
    cases k with
    | zero =>
      have hkept : ∀ j < rest.length, a.toNat ≠ (a + 1 + BitVec.ofNat 16 j).toNat := by
        intro j hj
        bv_omega
      rw [placeBytes, BitVec.add_zero, read_placeBytes_of_ne hkept, Memory.read_write, if_pos rfl, List.getD_cons_zero]
    | succ k =>
      rw [placeBytes, ← addr_succ_add, List.getD_cons_succ]
      exact ih (Nat.le_of_succ_le hlen) (Nat.lt_of_succ_lt_succ hk)

/-- Booting an image that fits is `reset()` over erased memory with the image at the top (20_memory.md R69). -/
theorem boot_eq {image : List Byte} (hlen : image.length ≤ 65536) :
    boot image = some (State.afterReset (placeBytes Memory.erased (0 - BitVec.ofNat 16 image.length) image) false) := by
  rw [boot, placeImage, if_pos (show image.length ≤ 2 ^ config.addrWidth from hlen), Option.map_some]

/-- Settles O58: the image and the erased cells below it by the two reads of `placeBytes`, the invariant by
`inv_afterReset`. -/
theorem bootPlacesImage : Obligations.BootPlacesImage := by
  unfold Obligations.BootPlacesImage
  intro image _ hlen
  refine ⟨_, boot_eq hlen, fun k hk => ?_, fun a ha => ?_, rfl, rfl,
    State.inv_afterReset (wf_placeBytes Memory.wf_erased _ _) false⟩
  · have hcell : BitVec.ofNat 16 (65536 - image.length + k) =
        0 - BitVec.ofNat 16 image.length + BitVec.ofNat 16 k := by bv_omega
    rw [hcell]
    exact read_placeBytes hlen hk
  · refine read_placeBytes_of_ne (m := Memory.erased) fun k hk => ?_
    bv_omega

end Sys2Proof.Machine
end

section
/-! PROOF. Decoding and encoding: the two directions (O1), the length by the opcode (O2), the opcodes without an entry (O3)
and sample words (O4). -/

namespace Sys2Proof

/-- The bytes an entry's form takes, its opcode among them (30_encoding.md R81 to R83). -/
def Entry.length : Entry → Nat
  | .f1 _ => 1
  | .f2 _ => 2
  | .f3 _ => 3

/-- The opcodes of each length list have an entry of that length: by evaluation, row by row. -/
theorem opcodeEntry_length : (∀ op ∈ opcodesF1, (opcodeEntry op).map Entry.length = some 1) ∧
    (∀ op ∈ opcodesF2, (opcodeEntry op).map Entry.length = some 2) ∧
    (∀ op ∈ opcodesF3, (opcodeEntry op).map Entry.length = some 3) :=
  ⟨List.map_inj_left.1 rfl, List.map_inj_left.1 rfl, List.map_inj_left.1 rfl⟩

/-- The length table against the dispatch table (R84). -/
theorem opcodeLength_eq (op : Byte) : opcodeLength op = (dispatch op).map Entry.length := by
  obtain ⟨hlen1, hlen2, hlen3⟩ := opcodeEntry_length
  unfold opcodeLength
  split_ifs with h1 h2 h3
  · simp [dispatch, Machine.config, h1, hlen1]
  · simp [dispatch, Machine.config, h2, hlen2]
  · simp [dispatch, Machine.config, h3, hlen3]
  · simp [dispatch, Machine.config, h1, h2, h3]

theorem dispatch_eq_none_iff (op : Byte) : dispatch op = none ↔ op ∈ unimplementedOpcodes := by
  rw [← Option.not_isSome_iff_eq_none, dispatch_isSome_iff, mem_implemented_iff, not_not]

/-! ### What an entry reads -/

theorem readOperands_ne_unimplemented (op : Byte) (e : Entry) (bytes : List Byte) :
    readOperands op e bytes ≠ .error (.unimplemented op) := by
  fun_cases readOperands op e bytes <;> simp

/-- An entry reads its operands from every list that has them. -/
theorem readOperands_of_length (op : Byte) {e : Entry} {operands : List Byte} (h : operands.length + 1 = e.length)
    (rest : List Byte) : ∃ i, readOperands op e (operands ++ rest) = .ok (i, rest) := by
  cases e with
  | f1 i =>
    obtain rfl := List.length_eq_zero_iff.1 (Nat.succ.inj h)
    exact ⟨i, rfl⟩
  | f2 form =>
    obtain ⟨b, rfl⟩ := List.length_eq_one_iff.1 (Nat.succ.inj h)
    exact ⟨form b, rfl⟩
  | f3 form =>
    obtain ⟨low, high, rfl⟩ := List.length_eq_two.1 (Nat.succ.inj h)
    exact ⟨form (word high low), rfl⟩

/-- What an entry reads under its opcode is an instruction's bytes, as many as the entry takes. -/
theorem readOperands_ok {op : Byte} {e : Entry} (henc : e.Encodes op) {bytes rest : List Byte} {i : Instr}
    (h : readOperands op e bytes = .ok (i, rest)) :
    op :: bytes = encode i ++ rest ∧ (encode i).length = e.length := by
  fun_cases readOperands op e bytes with
  | case1 j =>
    cases h
    rw [henc]
    exact ⟨rfl, rfl⟩
  | case2 form b =>
    cases h
    rw [henc b]
    exact ⟨rfl, rfl⟩
  | case3 form low high =>
    cases h
    rw [henc (word high low), lo_word, hi_word]
    exact ⟨rfl, rfl⟩
  | case4 | case5 | case6 => cases h

/-! ### What the decoder reads -/

theorem decode_cons_eq_ok_iff {op : Byte} {bytes rest : List Byte} {i : Instr} :
    decode (op :: bytes) = .ok (i, rest) ↔
      ∃ e, dispatch op = some e ∧ readOperands op e bytes = .ok (i, rest) := by
  cases hdisp : dispatch op with
  | none => simp [decode_none hdisp]
  | some e => simp [decode_some hdisp]

/-- Decoding gives back the instruction an encoding was made from, and what followed it. -/
theorem decode_encode_append (i : Instr) (rest : List Byte) : decode (encode i ++ rest) = .ok (i, rest) := by
  obtain ⟨op, operands, e, henc, hdisp, hform⟩ := dispatch_encode i
  rw [henc, List.cons_append, decode_some hdisp]
  rcases hform with ⟨rfl, rfl⟩ | ⟨form, b, rfl, rfl, rfl⟩ | ⟨form, w, rfl, rfl, rfl⟩
  · rfl
  · rfl
  · simp [readOperands]

/-- A list is read as an instruction only if it begins with that instruction's bytes. -/
theorem eq_encode_append_of_decode {bytes rest : List Byte} {i : Instr} (h : decode bytes = .ok (i, rest)) :
    bytes = encode i ++ rest := by
  cases bytes with
  | nil => cases h
  | cons op bytes =>
    obtain ⟨e, hdisp, hread⟩ := decode_cons_eq_ok_iff.1 h
    exact (readOperands_ok (dispatch_encodes hdisp) hread).1

/-- Settles O1: the first direction through `dispatch_encode`, the second through `dispatch_encodes`. -/
theorem decodeEncodeAgree : Obligations.DecodeEncodeAgree :=
  ⟨decode_encode_append, fun _ _ _ => eq_encode_append_of_decode⟩

/-! ### The length of an opcode, and the opcodes without an entry -/

theorem opcodeLength_eq_some_iff {op : Byte} {n : Nat} :
    opcodeLength op = some n ↔ ∃ e, dispatch op = some e ∧ e.length = n := by
  rw [opcodeLength_eq, Option.map_eq_some_iff]

theorem Entry.length_cases (e : Entry) : e.length = 1 ∨ e.length = 2 ∨ e.length = 3 := by
  cases e <;> simp [Entry.length]

/-- Whatever is read has the length of its opcode, and the rest of the list is left over (30_encoding.md R84). -/
theorem opcodeLength_of_decode {op : Byte} {bytes rest : List Byte} {i : Instr}
    (h : decode (op :: bytes) = .ok (i, rest)) :
    opcodeLength op = some (encode i).length ∧ bytes.length + 1 = (encode i).length + rest.length := by
  obtain ⟨e, hdisp, hread⟩ := decode_cons_eq_ok_iff.1 h
  obtain ⟨hbytes, hlength⟩ := readOperands_ok (dispatch_encodes hdisp) hread
  refine ⟨opcodeLength_eq_some_iff.2 ⟨e, hdisp, hlength.symm⟩, ?_⟩
  rw [← List.length_append, ← hbytes, List.length_cons]

/-- Settles O2: the opcode's entry takes as many operand bytes as the length table says, and what it reads has that
length. -/
theorem lengthFixedByOpcode : Obligations.LengthFixedByOpcode := by
  unfold Obligations.LengthFixedByOpcode
  refine ⟨fun op operands rest n hlen hoperands => ?_, fun _ _ _ _ => opcodeLength_of_decode⟩
  obtain ⟨e, hdisp, rfl⟩ := opcodeLength_eq_some_iff.1 hlen
  obtain ⟨i, hread⟩ := readOperands_of_length op hoperands rest
  have hdecode : decode (op :: (operands ++ rest)) = .ok (i, rest) := decode_cons_eq_ok_iff.2 ⟨e, hdisp, hread⟩
  exact ⟨e.length_cases, i, hdecode, Option.some.inj ((opcodeLength_of_decode hdecode).1.symm.trans hlen)⟩

theorem decode_eq_unimplemented_iff (op : Byte) (rest : List Byte) :
    decode (op :: rest) = .error (.unimplemented op) ↔ op ∈ unimplementedOpcodes := by
  rw [← dispatch_eq_none_iff]
  cases hdisp : dispatch op with
  | none => simp [decode_none hdisp]
  | some e => simp [decode_some hdisp, readOperands_ne_unimplemented]

/-- Settles O3: the opcodes without a dispatch entry are the listed ones, and both the decoder and the fetch go by the
entry. -/
theorem listedOpcodesUnimplemented : Obligations.ListedOpcodesUnimplemented :=
  ⟨rfl, decode_eq_unimplemented_iff, Machine.fetchInstr_eq_none_iff⟩

/-- Settles O4: each word begins with its instruction's encoding. -/
theorem sampleWordsDecode : Obligations.SampleWordsDecode :=
  ⟨decode_encode_append (.adcImm 0x01) [], decode_encode_append (.sbcIndY 0x40) [],
    decode_encode_append (.bitAbs 0x0200) [], decode_encode_append (.rorAbsX 0x03FF) [],
    decode_encode_append (.bne 0xFE) [], decode_encode_append .plp [0xEA], decode_encode_append (.jmpInd 0x0300) [],
    decode_encode_append (.ldxZpY 0x10) [], decode_encode_append (.staAbs 0x0200) [], decode_encode_append .sed []⟩

end Sys2Proof
end

section
/-! PROOF. The assembler's choice of form and its branch offsets (O59). -/

namespace Sys2Proof

theorem hi_eq_zero_iff (w : Addr) : hi w = 0 ↔ w.toNat < 256 := by
  rw [← BitVec.toNat_inj, hi_toNat]
  exact Nat.div_eq_zero_iff_lt (by decide)

theorem lo_sext16 (b : Byte) : lo (sext16 b) = b := by
  revert b
  decide

namespace Machine

/-! ### The Zero Page form and the Absolute form -/

theorem pickForm_zeroPage {form : Byte → Instr} {w : Addr} (hw : w.toNat < 256) (a : Option (Addr → Instr)) :
    pickForm (some form) a w = some (form (BitVec.ofNat 8 w.toNat)) := by
  simp only [pickForm, (hi_eq_zero_iff w).2 hw, if_true, lo_eq_ofNat, Nat.mod_eq_of_lt hw]

theorem pickForm_absolute {z : Option (Byte → Instr)} {w : Addr} (h : z = none ∨ 256 ≤ w.toNat)
    (a : Option (Addr → Instr)) : pickForm z a w = a.map (fun form => form w) := by
  cases z with
  | none => rfl
  | some form =>
    have hw : ¬ hi w = 0 := by
      rw [hi_eq_zero_iff, not_lt]
      exact h.resolve_left (Option.some_ne_none form)
    simp only [pickForm, if_neg hw]

/-- The two forms of a mnemonic between which the assembler picks, for each operand that is written as an address. -/
def addressSyntaxes (m : Mnemonic) (w : Addr) : List (AsmOperand × Option (Byte → Instr) × Option (Addr → Instr)) :=
  [(.address w, (asmForms m).zeroPage, (asmForms m).absolute),
    (.addressX w, (asmForms m).zeroPageX, (asmForms m).absoluteX),
    (.addressY w, (asmForms m).zeroPageY, (asmForms m).absoluteY)]

theorem assemble_addressSyntax (pc : Addr) {m : Mnemonic} {w : Addr} :
    ∀ r ∈ addressSyntaxes m w, assemble pc m r.1 = pickForm r.2.1 r.2.2 w :=
  List.map_inj_left.1 rfl

/-! ### The other operands -/

/-- No mnemonic has both an Implicit and an Accumulator form. -/
theorem asmForms_implicit_of_accumulator {m : Mnemonic} {i : Instr} (h : (asmForms m).accumulator = some i) :
    (asmForms m).implicit = none := by
  cases m <;> cases h <;> rfl

theorem assemble_bare_of_implicit (pc : Addr) {m : Mnemonic} {i : Instr} (h : (asmForms m).implicit = some i) :
    assemble pc m .bare = some i := by
  simp only [assemble, h]

theorem assemble_bare_of_accumulator (pc : Addr) {m : Mnemonic} {i : Instr} (h : (asmForms m).accumulator = some i) :
    assemble pc m .bare = some i := by
  simp only [assemble, asmForms_implicit_of_accumulator h, h]

theorem assemble_label (pc target : Addr) {m : Mnemonic} {form : Byte → Instr} {off : Byte}
    (hform : (asmForms m).relative = some form) (hoff : branchOffset pc target = some off) :
    assemble pc m (.label target) = some (form off) := by
  simp only [assemble, hform, hoff]

/-- A label at a mnemonic that is no branch stands for its address. -/
theorem assemble_label_of_no_branch (pc target : Addr) {m : Mnemonic} (h : (asmForms m).relative = none) :
    assemble pc m (.label target) = pickForm (asmForms m).zeroPage (asmForms m).absolute target := by
  simp only [assemble, h]

/-! ### The offset of a branch -/

theorem branchOffset_eq_some_iff (pc target : Addr) (off : Byte) :
    branchOffset pc target = some off ↔ target = pc + 2 + sext16 off := by
  have hsub : target = pc + 2 + sext16 off ↔ target - (pc + 2) = sext16 off := by
    rw [add_comm, ← sub_eq_iff_eq_add]
  rw [hsub, branchOffset]
  generalize target - (pc + 2) = d
  constructor
  · intro h
    obtain ⟨hd, rfl⟩ : sext16 (lo d) = d ∧ lo d = off := by simpa using h
    exact hd.symm
  · rintro rfl
    simp [lo_sext16]

/-- The offset byte is the distance to the target, mod 65536. -/
theorem branchOffset_eq_some_iff_distance (pc target : Addr) (off : Byte) :
    branchOffset pc target = some off ↔ (target.toNat : Int) = (pc.toNat + 2 + off.toInt) % 65536 := by
  have hnext : (((pc + 2).toNat : Nat) : Int) = (pc.toNat + 2) % 65536 := by
    simp [BitVec.toNat_add]
  rw [branchOffset_eq_some_iff, ← BitVec.toNat_inj, ← Int.natCast_inj, add_sext16_toNat, hnext, Int.emod_add_emod]

theorem byte_toInt_ofInt {k : Int} (hlow : -128 ≤ k) (hhigh : k ≤ 127) : (BitVec.ofInt 8 k).toInt = k :=
  BitVec.toInt_ofInt_eq_self (by decide) hlow (Int.lt_add_one_of_le hhigh)

/-- An offset byte reaches exactly the targets from 128 before to 127 past the next instruction. -/
theorem branchOffset_isSome_iff (pc target : Addr) : (branchOffset pc target).isSome = true ↔
    ∃ k : Int, -128 ≤ k ∧ k ≤ 127 ∧ (target.toNat : Int) = (pc.toNat + 2 + k) % 65536 := by
  rw [Option.isSome_iff_exists]
  constructor
  · rintro ⟨off, hoff⟩
    exact ⟨off.toInt, BitVec.le_toInt off, Int.le_of_lt_add_one BitVec.toInt_lt,
      (branchOffset_eq_some_iff_distance pc target off).1 hoff⟩
  · rintro ⟨k, hlow, hhigh, hk⟩
    refine ⟨BitVec.ofInt 8 k, (branchOffset_eq_some_iff_distance pc target _).2 ?_⟩
    rwa [byte_toInt_ofInt hlow hhigh]

/-- Settles O59: each operand's form from its lemma, the choice of form by `pickForm`'s two cases, the offset by its
distance. -/
theorem assemblerPicksForm : Obligations.AssemblerPicksForm := by
  unfold Obligations.AssemblerPicksForm
  have hpick : ∀ (z : Option (Byte → Instr)) (a : Option (Addr → Instr)) (w : Addr),
      (∀ f, z = some f → w.toNat < 256 → pickForm z a w = some (f (BitVec.ofNat 8 w.toNat))) ∧
      (z = none ∨ 256 ≤ w.toNat → pickForm z a w = a.map (fun f => f w)) := by
    refine fun z a w => ⟨?_, fun h => pickForm_absolute h a⟩
    rintro f rfl hw
    exact pickForm_zeroPage hw a
  refine ⟨fun pc m b w => ⟨fun _ => assemble_bare_of_implicit pc, fun _ h => ⟨h, assemble_bare_of_accumulator pc h⟩,
    fun f h => Option.map_eq_some_iff.2 ⟨f, h, rfl⟩, fun f h => Option.map_eq_some_iff.2 ⟨f, h, rfl⟩,
    fun f h => Option.map_eq_some_iff.2 ⟨f, h, rfl⟩, fun f h => Option.map_eq_some_iff.2 ⟨f, h, rfl⟩, ?_,
    fun _ _ => assemble_label pc w⟩, hpick, branchOffset_eq_some_iff_distance, branchOffset_isSome_iff⟩
  intro o z a hmem
  rw [assemble_addressSyntax pc _ hmem]
  exact hpick z a w

end Machine

end Sys2Proof
end

section
/-! PROOF. What the assembler writes is the instruction that is meant (O5). -/

namespace Sys2Proof.Machine

open Sys2Proof.Claims

/-! ### Every form the assembler has for a mnemonic is of that mnemonic -/

/-- What each of a mnemonic's forms makes of an operand byte and an operand word. -/
def AsmForms.instrs (f : AsmForms) (b : Byte) (w : Addr) : List (Option Instr) :=
  [f.implicit, f.accumulator, f.immediate.map (fun form => form b), f.zeroPage.map (fun form => form b),
    f.zeroPageX.map (fun form => form b), f.zeroPageY.map (fun form => form b), f.absolute.map (fun form => form w),
    f.absoluteX.map (fun form => form w), f.absoluteY.map (fun form => form w), f.indirect.map (fun form => form w),
    f.indexedIndirect.map (fun form => form b), f.indirectIndexed.map (fun form => form b),
    f.relative.map (fun form => form b)]

theorem mnemonic_of_mem_instrs {m : Mnemonic} {b : Byte} {w : Addr} {i : Instr}
    (h : some i ∈ (asmForms m).instrs b w) : mnemonic i = m := by
  have hall : ∀ i ∈ ((asmForms m).instrs b w).reduceOption, mnemonic i = m := by
    cases m <;> exact List.map_inj_left.1 rfl
  exact hall i (List.reduceOption_mem_iff.2 h)

theorem mem_of_pickForm {z : Option (Byte → Instr)} {a : Option (Addr → Instr)} {w : Addr} {i : Instr}
    (h : pickForm z a w = some i) {l : List (Option Instr)} (hz : z.map (fun form => form (lo w)) ∈ l)
    (ha : a.map (fun form => form w) ∈ l) : some i ∈ l := by
  cases z with
  | none => exact h ▸ ha
  | some form =>
    rw [pickForm] at h
    split_ifs at h
    · exact h ▸ hz
    · exact h ▸ ha

/-- Whatever is assembled is one of the mnemonic's forms with some operand. -/
theorem mem_instrs_of_assemble {pc : Addr} {m : Mnemonic} {o : AsmOperand} {i : Instr} (h : assemble pc m o = some i) :
    ∃ b w, some i ∈ (asmForms m).instrs b w := by
  cases o with
  | bare =>
    refine ⟨0, 0, ?_⟩
    cases himplicit : (asmForms m).implicit <;> simp [AsmForms.instrs, ← h, assemble, himplicit]
  | accumulator => exact ⟨0, 0, by simp [AsmForms.instrs, ← h, assemble]⟩
  | immediate b => exact ⟨b, 0, by simp [AsmForms.instrs, ← h, assemble]⟩
  | address w => exact ⟨lo w, w, mem_of_pickForm h (by simp [AsmForms.instrs]) (by simp [AsmForms.instrs])⟩
  | addressX w => exact ⟨lo w, w, mem_of_pickForm h (by simp [AsmForms.instrs]) (by simp [AsmForms.instrs])⟩
  | addressY w => exact ⟨lo w, w, mem_of_pickForm h (by simp [AsmForms.instrs]) (by simp [AsmForms.instrs])⟩
  | indirect w => exact ⟨0, w, by simp [AsmForms.instrs, ← h, assemble]⟩
  | indexedIndirect b => exact ⟨b, 0, by simp [AsmForms.instrs, ← h, assemble]⟩
  | indirectIndexed b => exact ⟨b, 0, by simp [AsmForms.instrs, ← h, assemble]⟩
  | label target =>
    cases hrelative : (asmForms m).relative with
    | none =>
      rw [assemble_label_of_no_branch pc target hrelative] at h
      exact ⟨lo target, target, mem_of_pickForm h (by simp [AsmForms.instrs]) (by simp [AsmForms.instrs])⟩
    | some form =>
      cases hoff : branchOffset pc target with
      | none => simp [assemble, hrelative, hoff] at h
      | some off =>
        rw [assemble_label pc target hrelative hoff] at h
        exact ⟨off, 0, by simp [AsmForms.instrs, hrelative, h]⟩

/-! ### The length of a form -/

theorem length_of_absolute {m : Mnemonic} {w : Addr} :
    ∀ i ∈ (addressSyntaxes m w).filterMap fun r => r.2.2.map fun form => form w, (encode i).length = 3 := by
  cases m <;> exact List.map_inj_left.1 rfl

/-- A two-byte form is written with an address that fits in 8 bits. -/
theorem address_lt_of_length_two {pc : Addr} {m : Mnemonic} {o : AsmOperand} {w : Addr} {i : Instr}
    (ho : o ∈ [.address w, .addressX w, .addressY w]) (h : assemble pc m o = some i) (hlen : (encode i).length = 2) :
    w.toNat < 256 := by
  obtain ⟨r, hr, rfl⟩ : ∃ r ∈ addressSyntaxes m w, r.1 = o := List.mem_map.1 ho
  by_contra hw
  rw [assemble_addressSyntax pc r hr, pickForm_absolute (.inr (not_lt.1 hw))] at h
  have hlen3 := length_of_absolute i (List.mem_filterMap.2 ⟨r, hr, h⟩)
  omega

theorem assemble_bare_of_length_one (pc : Addr) {i : Instr} (h : (encode i).length = 1) :
    assemble pc (mnemonic i) .bare = some i := by
  cases i <;> cases h <;> rfl

/-! ### A form with an operand of its mode -/

/-- The instruction a mnemonic has for a memory operand, in that mode and no other. -/
def AsmForms.ofMode (f : AsmForms) : MemMode → Option Instr
  | .zeroPage b => f.zeroPage.map (fun form => form b)
  | .zeroPageX b => f.zeroPageX.map (fun form => form b)
  | .zeroPageY b => f.zeroPageY.map (fun form => form b)
  | .absolute w => f.absolute.map (fun form => form w)
  | .absoluteX w => f.absoluteX.map (fun form => form w)
  | .absoluteY w => f.absoluteY.map (fun form => form w)
  | .indexedIndirect b => f.indexedIndirect.map (fun form => form b)
  | .indirectIndexed b => f.indirectIndexed.map (fun form => form b)

/-- The same for the operand of a reading instruction. -/
def AsmForms.ofRead (f : AsmForms) : ReadOperand → Option Instr
  | .immediate b => f.immediate.map (fun form => form b)
  | .memory mode => f.ofMode mode

/-- The same for the target of a read-modify-write instruction. -/
def AsmForms.ofRmw (f : AsmForms) : RmwTarget → Option Instr
  | .accumulator => f.accumulator
  | .memory mode => f.ofMode mode

/-- The address that an Absolute mode writes in full. -/
def MemMode.absoluteAddress : MemMode → Option Addr
  | .absolute w => some w
  | .absoluteX w => some w
  | .absoluteY w => some w
  | .zeroPage _ => none
  | .zeroPageX _ => none
  | .zeroPageY _ => none
  | .indexedIndirect _ => none
  | .indirectIndexed _ => none

/-- The same for the operand of a reading instruction. -/
def ReadOperand.absoluteAddress : ReadOperand → Option Addr
  | .immediate _ => none
  | .memory mode => mode.absoluteAddress

/-- The same for the target of a read-modify-write instruction. -/
def RmwTarget.absoluteAddress : RmwTarget → Option Addr
  | .accumulator => none
  | .memory mode => mode.absoluteAddress

theorem pickForm_zext16 {z : Option (Byte → Instr)} {b : Byte} {i : Instr}
    (h : z.map (fun form => form b) = some i) (a : Option (Addr → Instr)) : pickForm z a (zext16 b) = some i := by
  obtain ⟨form, rfl, rfl⟩ := Option.map_eq_some_iff.1 h
  have hb : (zext16 b).toNat < 256 := by
    rw [zext16_toNat]
    exact b.isLt
  rw [pickForm_zeroPage hb, zext16_toNat, BitVec.ofNat_toNat, BitVec.setWidth_eq]

section

variable (pc : Addr) {m : Mnemonic} {i : Instr}

theorem assemble_memAsm {mode : MemMode} (hform : (asmForms m).ofMode mode = some i)
    (hwide : ∀ w ∈ mode.absoluteAddress, 256 ≤ w.toNat) : assemble pc m (memAsm mode) = some i := by
  cases mode with
  | zeroPage b => exact pickForm_zext16 hform _
  | zeroPageX b => exact pickForm_zext16 hform _
  | zeroPageY b => exact pickForm_zext16 hform _
  | absolute w => exact (pickForm_absolute (.inr (hwide w rfl)) _).trans hform
  | absoluteX w => exact (pickForm_absolute (.inr (hwide w rfl)) _).trans hform
  | absoluteY w => exact (pickForm_absolute (.inr (hwide w rfl)) _).trans hform
  | indexedIndirect b => exact hform
  | indirectIndexed b => exact hform

theorem assemble_readAsm {o : ReadOperand} (hform : (asmForms m).ofRead o = some i)
    (hwide : ∀ w ∈ o.absoluteAddress, 256 ≤ w.toNat) : assemble pc m (readAsm o) = some i := by
  cases o with
  | immediate b => exact hform
  | memory mode => exact assemble_memAsm pc hform hwide

theorem assemble_rmwAsm {o : RmwTarget} (hform : (asmForms m).ofRmw o = some i)
    (hwide : ∀ w ∈ o.absoluteAddress, 256 ≤ w.toNat) : assemble pc m (rmwAsm o) = some i := by
  cases o with
  | accumulator => exact hform
  | memory mode => exact assemble_memAsm pc hform hwide

end

/-! The tables of forms against `asmForms`: the columns are the same list by evaluation, whatever the operands. -/

theorem readForms_operand (b : Byte) (w : Addr) : ∀ f ∈ readForms b w,
    ((asmForms (mnemonic f.instr)).ofRead f.operand, f.operand.absoluteAddress) =
      (some f.instr, if f.length = 3 then some w else none) := by
  simp only [readForms, List.forall_mem_append, and_assoc]
  and_intros <;> exact List.map_inj_left.1 rfl

theorem writeForms_operand (b : Byte) (w : Addr) : ∀ f ∈ writeForms b w,
    ((asmForms (mnemonic f.instr)).ofMode f.operand, f.operand.absoluteAddress) =
      (some f.instr, if f.length = 3 then some w else none) :=
  List.map_inj_left.1 rfl

theorem rmwForms_operand (b : Byte) (w : Addr) : ∀ f ∈ rmwForms b w,
    ((asmForms (mnemonic f.instr)).ofRmw f.operand, f.operand.absoluteAddress) =
      (some f.instr, if f.length = 3 then some w else none) :=
  List.map_inj_left.1 rfl

/-- An address written in full where a form has three bytes does not fit in 8 bits, if the form's word does not. -/
theorem wide_of_length {a : Option Addr} {n : Nat} {w : Addr} (ha : a = if n = 3 then some w else none)
    (h : n ≠ 3 ∨ 256 ≤ w.toNat) : ∀ v ∈ a, 256 ≤ v.toNat := by
  intro v hv
  rw [ha] at hv
  split_ifs at hv with hn
  · obtain rfl := Option.some.inj hv
    exact h.resolve_left (not_not.2 hn)
  · cases hv

/-! ### The branches -/

theorem relative_branchForms (b : Byte) :
    ∀ f ∈ branchForms b, (asmForms (mnemonic f.1)).relative.map (fun form => form b) = some f.1 :=
  List.map_inj_left.1 rfl

/-- Each branch branches when its flag has its value (44_branches.md R181 to R188). -/
theorem exec_branchForms (b : Byte) (s : State) : ∀ f ∈ branchForms b,
    exec f.1 s = runBranch f.1 b (decide (s.flag f.2.2.1 = f.2.2.2)) s := by
  have hcond : ∀ x v : Bool, (bif v then x else !x) = decide (x = v) := by decide
  simp only [← hcond]
  exact List.map_inj_left.1 rfl

/-- A branch to a label an offset byte reaches is written with that byte, and goes there when its flag has its value. -/
theorem branch_reaches_label {pc w : Addr} {off : Byte} (hoff : branchOffset pc w = some off) :
    ∀ f ∈ branchForms off, assemble pc (mnemonic f.1) (.label w) = some f.1 ∧
      ∀ s : State, s.pc = pc → ∃ t, exec f.1 s = .next t ∧ t.pc = if s.flag f.2.2.1 = f.2.2.2 then w else pc + 2 := by
  intro f hf
  obtain ⟨form, hform, hinstr⟩ := Option.map_eq_some_iff.1 (relative_branchForms off f hf)
  refine ⟨(assemble_label pc w hform hoff).trans (congrArg some hinstr), ?_⟩
  rintro s rfl
  obtain rfl := (branchOffset_eq_some_iff s.pc w off).1 hoff
  rw [exec_branchForms off s f hf, runBranch_eq]
  refine ⟨_, rfl, ?_⟩
  simp [branchTarget, branchNext]

/-- Settles O5: what is written is one of the mnemonic's forms, an Absolute one has three bytes, each listed form is written
from an operand of its mode, and a branch goes by its offset byte. -/
theorem assembledInstructionIsMeant : Obligations.AssembledInstructionIsMeant := by
  unfold Obligations.AssembledInstructionIsMeant
  intro pc b w
  refine ⟨fun m o i h => ?_, fun m o i => address_lt_of_length_two, fun i => assemble_bare_of_length_one pc,
    fun f hf hwide => ?_, fun f hf hwide => ?_, fun f hf hwide => ?_, rfl, rfl, rfl, fun k hlow hhigh hk => ?_⟩
  · obtain ⟨b, w, hmem⟩ := mem_instrs_of_assemble h
    exact mnemonic_of_mem_instrs hmem
  · obtain ⟨hform, haddr⟩ := Prod.mk.inj (readForms_operand b w f hf)
    exact assemble_readAsm pc hform (wide_of_length haddr hwide)
  · obtain ⟨hform, haddr⟩ := Prod.mk.inj (writeForms_operand b w f hf)
    exact assemble_memAsm pc hform (wide_of_length haddr hwide)
  · obtain ⟨hform, haddr⟩ := Prod.mk.inj (rmwForms_operand b w f hf)
    exact assemble_rmwAsm pc hform (wide_of_length haddr hwide)
  · apply branch_reaches_label
    rwa [branchOffset_eq_some_iff_distance, byte_toInt_ofInt hlow hhigh]

end Sys2Proof.Machine
end

section
/-! PROOF. The step (O6) and the PC of an instruction that transfers no control (O7). -/

namespace Sys2Proof.Machine

/-- Settles O6: the fetch reads what the decoder reads, and no instruction writes the halt report. -/
theorem stepRunsDecodedInstruction : Obligations.StepRunsDecodedInstruction := by
  unfold Obligations.StepRunsDecodedInstruction
  intro s i rest hrun hdecode
  have hstep : step s = exec i s := step_exec hrun ((fetchInstr_eq_some_iff s i).2 ⟨rest, hdecode⟩)
  obtain ⟨t, hexec, hhalt, -⟩ := exec_frame i s
  have hstay : t.halted = false := by rwa [State.halted, hhalt]
  refine ⟨hstep, t, hexec, ?_⟩
  rw [transact_step (hstep.trans hexec), hstay]

/-- The instruction completes with PC past its own bytes (40_pipeline_addressing.md R101). -/
def MovesPast (i : Instr) (s : State) : Prop :=
  ∃ t, exec i s = .next t ∧ t.pc = s.pc + BitVec.ofNat 16 (encode i).length

theorem ReadSem.keeps_pc {m : Mnemonic} {sem : Byte → State → State} (hsem : ReadSem m sem) (v : Byte) (s : State) :
    (sem v s).pc = s.pc := by
  cases hsem <;> rfl

theorem RmwTarget.store_pc (o : RmwTarget) (s₀ s : State) (v : Byte) : (o.store s₀ s v).pc = s.pc := by
  cases o with
  | accumulator => rfl
  | memory m => exact s.writeByte_pc _ v

/-- RTS and RTI are the Implicit instructions that write PC. -/
theorem ImplicitSem.keeps_pc {m : Mnemonic} {sem : State → State} (hsem : ImplicitSem m sem)
    (hm : m ∉ [Mnemonic.RTS, .RTI]) (s : State) : (sem s).pc = s.pc := by
  cases hsem
  case PHA => exact s.push_pc s.ac
  case PHP => exact s.push_pc s.p
  case RTS | RTI => simp at hm
  all_goals rfl

section
variable {i : Instr} {s : State}

/-! A frame that moves PC past its operand's bytes moves it past the instruction's when the two lengths agree. -/

theorem MovesPast.read {o : ReadOperand} {sem : Byte → State → State} (hexec : exec i s = runRead i o sem s)
    (hlen : (encode i).length = o.length) (hsem : ReadSem (mnemonic i) sem) : MovesPast i s := by
  refine ⟨_, hexec, ?_⟩
  rw [hlen, State.charge_pc, hsem.keeps_pc, State.advance_pc]

theorem MovesPast.write {m : MemMode} {v : Byte} (hexec : exec i s = runWrite i m v s)
    (hlen : (encode i).length = m.length) : MovesPast i s := by
  refine ⟨_, hexec, ?_⟩
  rw [hlen, State.charge_pc, State.writeByte_pc, State.advance_pc]

theorem MovesPast.rmw {o : RmwTarget} {sem : Byte → Byte → Byte × Byte} (hexec : exec i s = runRmw i o sem s)
    (hlen : (encode i).length = o.length) : MovesPast i s := by
  refine ⟨_, hexec, ?_⟩
  rw [hlen, State.charge_pc, RmwTarget.store_pc, State.withP_pc, State.advance_pc]

theorem MovesPast.implicit {sem : State → State} (hexec : exec i s = runImplicit i sem s)
    (hlen : (encode i).length = 1) (hsem : ImplicitSem (mnemonic i) sem) (hm : mnemonic i ∉ [Mnemonic.RTS, .RTI]) :
    MovesPast i s := by
  refine ⟨_, hexec, ?_⟩
  rw [hlen, State.charge_pc, hsem.keeps_pc hm, State.advance_pc]

end

/-- Settles O7, by the instruction's frame; each form's encoding is as long as its addressing mode says (R84). -/
theorem pcMovesPastInstruction : Obligations.PcMovesPastInstruction := by
  unfold Obligations.PcMovesPastInstruction
  intro i s hm
  show MovesPast i s
  cases i
  case adcImm | adcZp | adcZpX | adcAbs | adcAbsX | adcAbsY | adcIndX | adcIndY | sbcImm | sbcZp | sbcZpX | sbcAbs
      | sbcAbsX | sbcAbsY | sbcIndX | sbcIndY | andImm | andZp | andZpX | andAbs | andAbsX | andAbsY | andIndX | andIndY
      | oraImm | oraZp | oraZpX | oraAbs | oraAbsX | oraAbsY | oraIndX | oraIndY | eorImm | eorZp | eorZpX | eorAbs
      | eorAbsX | eorAbsY | eorIndX | eorIndY | cmpImm | cmpZp | cmpZpX | cmpAbs | cmpAbsX | cmpAbsY | cmpIndX | cmpIndY
      | cpxImm | cpxZp | cpxAbs | cpyImm | cpyZp | cpyAbs | bitZp | bitAbs | ldaImm | ldaZp | ldaZpX | ldaAbs | ldaAbsX
      | ldaAbsY | ldaIndX | ldaIndY | ldxImm | ldxZp | ldxZpY | ldxAbs | ldxAbsY | ldyImm | ldyZp | ldyZpX | ldyAbs
      | ldyAbsX =>
    exact .read rfl rfl (by constructor)
  case staZp | staZpX | staAbs | staAbsX | staAbsY | staIndX | staIndY | stxZp | stxZpY | stxAbs | styZp | styZpX
      | styAbs =>
    exact .write rfl rfl
  case aslAcc | aslZp | aslZpX | aslAbs | aslAbsX | lsrAcc | lsrZp | lsrZpX | lsrAbs | lsrAbsX | rolAcc | rolZp | rolZpX
      | rolAbs | rolAbsX | rorAcc | rorZp | rorZpX | rorAbs | rorAbsX | incZp | incZpX | incAbs | incAbsX | decZp | decZpX
      | decAbs | decAbsX =>
    exact .rmw rfl rfl
  case inx | iny | dex | dey | pha | php | pla | plp | tax | tay | txa | tya | tsx | txs | clc | sec | cli | sei | clv
      | cld | sed | nop =>
    exact .implicit rfl rfl (by constructor) (by decide)
  case bpl | bmi | bvc | bvs | bcc | bcs | bne | beq | jmpAbs | jmpInd | jsr | rts | brk | rti =>
    simp [mnemonic] at hm

end Sys2Proof.Machine
end

section
/-! PROOF. Effective addresses in numbers: the direct and indexed modes (O26) and the pointer modes (O27). -/

namespace Sys2Proof.Machine

/-- Absolute indexing wraps mod 65536 (40_pipeline_addressing.md R111). -/
theorem add_zext16_toNat (a : Addr) (r : Byte) : (a + zext16 r).toNat = (a.toNat + r.toNat) % 65536 := by
  rw [BitVec.toNat_add, zext16_toNat]

/-- Zero Page indexing stays in page 0 (R108). -/
theorem zext16_add_toNat (b r : Byte) : (zext16 (b + r)).toNat = (b.toNat + r.toNat) % 256 := by
  rw [zext16_toNat, BitVec.toNat_add]

theorem zext16_eq_ofNat (p : Byte) : zext16 p = BitVec.ofNat 16 p.toNat :=
  (BitVec.ofNat_toNat 16 p).symm

/-- The crossing report compares the pages of the effective address and its base. -/
theorem MemMode.crossed_eq (s : State) (m : MemMode) :
    m.crossed s = decide ((m.ea s).toNat / 256 ≠ (m.base s).toNat / 256) := hi_ne_iff _ _

/-- A mode that adds nothing to its base reports no crossing. -/
theorem MemMode.crossed_of_ea_eq_base {s : State} {m : MemMode} (h : m.ea s = m.base s) : m.crossed s = false := by
  rw [MemMode.crossed, h, bne_self_eq_false]

/-- Settles O26: the addresses by the two sums with their wraps, a crossing by `crossed_eq`. -/
theorem directAddressing : Obligations.DirectAddressing := by
  unfold Obligations.DirectAddressing
  intro s b w m
  have hx : ((MemMode.absoluteX w).ea s).toNat = (w.toNat + s.ix.toNat) % 65536 := add_zext16_toNat w s.ix
  have hy : ((MemMode.absoluteY w).ea s).toNat = (w.toNat + s.iy.toNat) % 65536 := add_zext16_toNat w s.iy
  refine ⟨rfl, rfl, zext16_toNat b, zext16_add_toNat b s.ix, zext16_add_toNat b s.iy, rfl, hx, hy, rfl,
    MemMode.crossed_of_ea_eq_base rfl, MemMode.crossed_of_ea_eq_base rfl, MemMode.crossed_of_ea_eq_base rfl,
    MemMode.crossed_of_ea_eq_base rfl, ?_, ?_⟩
  · rw [MemMode.crossed_eq, hx, MemMode.base]
  · rw [MemMode.crossed_eq, hy, MemMode.base]

/-- The word at a zero-page pointer takes its high byte at p + 1, with no wrap in page 0 (R110, R112). -/
theorem State.readWord_zext16_toNat (s : State) (p : Byte) : (s.readWord (zext16 p)).toNat =
    (s.readByte (BitVec.ofNat 16 (p.toNat + 1))).toNat * 256 + (s.readByte (BitVec.ofNat 16 p.toNat)).toNat := by
  rw [State.readWord_eq, word_toNat, zext16_eq_ofNat, BitVec.ofNat_add]
  rfl

/-- Settles O27: the pointer is read by `readWord_zext16_toNat`; (zp,X) adds nothing to it, (zp),Y adds IY. -/
theorem pointerAddressing : Obligations.PointerAddressing := by
  unfold Obligations.PointerAddressing
  intro s b
  refine ⟨⟨?_, MemMode.crossed_of_ea_eq_base rfl, fun hp => ?_⟩, ?_⟩
  · rw [← BitVec.toNat_add]
    exact s.readWord_zext16_toNat (s.ix + b)
  · have hpointer : zext16 (s.ix + b) = 0x00FF := BitVec.eq_of_toNat_eq ((zext16_add_toNat s.ix b).trans hp)
    show s.readWord (zext16 (s.ix + b)) = _
    rw [hpointer]
    rfl
  · have hbase := s.readWord_zext16_toNat b
    have hea : ((MemMode.indirectIndexed b).ea s).toNat = ((s.readWord (zext16 b)).toNat + s.iy.toNat) % 65536 :=
      add_zext16_toNat _ s.iy
    rw [← hbase, MemMode.crossed_eq, hea]
    exact ⟨rfl, rfl⟩

end Sys2Proof.Machine
end

section
/-! PROOF. A form that reads its operand, from the tables of forms: its opcode, its length, and its outcome as PC past the
form's bytes and the form's cost charged. -/

namespace Sys2Proof.Machine

open Sys2Proof.Claims

/-- A row of CYCLE_TABLE that is no branch's costs its base and, on a crossing, its page penalty (70_reset_and_hazards.md
R350, R352). -/
theorem cost_of_cycleTable {i : Instr} {base : Nat} {crossAdds : Bool}
    (h : config.cycleTable i = ⟨base, crossAdds, false⟩) (crossed taken : Bool) :
    cost i crossed taken = base + (if crossAdds && crossed then 1 else 0) := by
  simp [cost, h]

theorem hasOpcode_readForms (b : Byte) (w : Addr) : ∀ f ∈ readForms b w, f.hasOpcode := by
  simp only [readForms, List.forall_mem_append, and_assoc]
  and_intros <;> exact List.map_inj_left.1 rfl

theorem length_readForms (b : Byte) (w : Addr) : ∀ f ∈ readForms b w, f.operand.length = f.length := by
  simp only [readForms, List.forall_mem_append, and_assoc]
  and_intros <;> exact List.map_inj_left.1 rfl

/-- A form that runs in the frame of the reading instructions, with the opcode, the length and the cost that it lists. -/
theorem exec_readForms {b : Byte} {w : Addr} {f : Form ReadOperand} (hf : f ∈ readForms b w)
    {sem : Byte → State → State} {s : State} (hrun : exec f.instr s = runRead f.instr f.operand sem s) :
    f.hasOpcode ∧ exec f.instr s = .next ((sem (f.operand.value s) (s.advance f.length)).charge
      (f.base + (if f.crossAdds && f.operand.crossed s then 1 else 0))) := by
  rw [hrun, runRead_eq, length_readForms b w f hf, cost_of_cycleTable (cycleTable_readForms b w f hf)]
  exact ⟨hasOpcode_readForms b w f hf, rfl⟩

theorem flagsBecome_setNVZC (p : Byte) (n v z c : Bool) :
    FlagsBecome p (setNVZC p n v z c) [(.n, n), (.v, v), (.z, z), (.c, c)] := fun f => by
  cases f <;> simp [assigned]

end Sys2Proof.Machine
end

section
/-! PROOF. Facts of numbers that ADC and SBC share: a result byte's bits, V as two's-complement overflow (decision D11) and
the digits of packed decimal. -/

namespace Sys2Proof.Machine

open Sys2Proof.Claims

/-! ### A byte's bit 7 -/

theorem byte_msb (x : Byte) : x.msb = decide (128 ≤ x.toNat) := BitVec.msb_eq_decide x

theorem and_0x80_ne_zero (x : Byte) : ((x &&& 0x80) != 0) = x.msb := by
  rw [show (0x80 : Byte) = BitVec.twoPow 8 7 from rfl, BitVec.and_twoPow, BitVec.msb_eq_getLsbD_last]
  cases x.getLsbD 7 <;> rfl

/-- Bit 7 of an exact sum is bit 7 of its low byte. -/
theorem testBit_seven (r : Nat) : r.testBit 7 = decide (128 ≤ r % 256) := by
  have h : (BitVec.ofNat 8 r).msb = r.testBit 7 := by
    rw [BitVec.msb_eq_getLsbD_last, BitVec.getLsbD_ofNat]
    rfl
  rw [← h, byte_msb, BitVec.toNat_ofNat]

/-- Two's complement in numbers. -/
theorem byte_toInt (x : Byte) : x.toInt = if 128 ≤ x.toNat then (x.toNat : Int) - 256 else x.toNat := by
  rw [BitVec.toInt_eq_msb_cond, byte_msb]
  simp

/-! ### V -/

/-- V of ADC: the operands have the same sign and the result has the other. -/
theorem overflowAdd_eq (a m r : Byte) : overflowAdd a m r = (a.msb == m.msb && a.msb != r.msb) := by
  rw [overflowAdd, and_0x80_ne_zero, BitVec.msb_and, BitVec.msb_not, BitVec.msb_xor, BitVec.msb_xor]
  cases a.msb <;> cases m.msb <;> cases r.msb <;> rfl

/-- On the low byte of the exact sum, that is the signed sum out of range (41_arithmetic.md R130, overflow reading). -/
theorem overflowAdd_sum (a m : Byte) (c : Bool) :
    overflowAdd a m (BitVec.ofNat 8 (a.toNat + m.toNat + bitNat c)) =
      decide (a.toInt + m.toInt + (bitNat c : Int) < -128 ∨ 127 < a.toInt + m.toInt + (bitNat c : Int)) := by
  have ha := a.isLt
  have hm := m.isLt
  have hc : bitNat c ≤ 1 := by cases c <;> decide
  rw [overflowAdd_eq, Bool.eq_iff_iff, byte_toInt, byte_toInt]
  simp only [byte_msb, BitVec.toNat_ofNat, Bool.and_eq_true, beq_iff_eq, bne_iff_ne, ne_eq, decide_eq_decide,
    decide_eq_true_eq]
  split <;> split <;> omega

/-! ### Packed decimal -/

/-- The number `r` packs in base 16 the two digits that `n` has in base 10, and the same `carry` (negative: a borrow) goes
out of both. -/
def PacksDecimal (r n : Int) : Prop :=
  ∃ carry tens ones : Int, (0 ≤ tens ∧ tens ≤ 9) ∧ (0 ≤ ones ∧ ones ≤ 9) ∧
    r = 256 * carry + 16 * tens + ones ∧ n = 100 * carry + 10 * tens + ones

section
variable {r n : Int} (h : PacksDecimal r n)
include h

theorem PacksDecimal.ofInt : ValidBcd (BitVec.ofInt 8 r) ∧ (bcd (BitVec.ofInt 8 r) : Int) = n % 100 := by
  obtain ⟨carry, tens, ones, htens, hones, rfl, rfl⟩ := h
  have hbyte : ((BitVec.ofInt 8 (256 * carry + 16 * tens + ones)).toNat : Int) = 16 * tens + ones := by
    rw [BitVec.toNat_ofInt]
    omega
  unfold ValidBcd bcd
  omega

theorem PacksDecimal.carry_iff : 0xFF < r ↔ 100 ≤ n := by
  obtain ⟨carry, tens, ones, htens, hones, rfl, rfl⟩ := h
  omega

theorem PacksDecimal.nonneg_iff : 0 ≤ r ↔ 0 ≤ n := by
  obtain ⟨carry, tens, ones, htens, hones, rfl, rfl⟩ := h
  omega

end

end Sys2Proof.Machine
end

section
/-! PROOF. ADC: all eight forms (O28), the binary law (O29), decimal addition (O30). -/

namespace Sys2Proof.Machine

open Sys2Proof.Claims

/-! ### The three exact numbers of 41_arithmetic.md R130 -/

/-- `r`, the uncorrected sum. -/
def adcSum (p a m : Byte) : Nat := a.toNat + m.toNat + bitNat (getFlag p .c)

/-- `r` after the correction of the low digit (decision D9). -/
def adcLow (p a m : Byte) : Nat :=
  if getFlag p .d = true ∧ a.toNat % 16 + m.toNat % 16 + bitNat (getFlag p .c) > 9 then adcSum p a m + 0x06
  else adcSum p a m

/-- `r` after both corrections. -/
def adcHigh (p a m : Byte) : Nat :=
  if getFlag p .d = true ∧ adcLow p a m > 0x99 then adcLow p a m + 0x60 else adcLow p a m

/-- ADC from the three numbers, in both modes. -/
theorem adc_eq (m : Byte) (s : State) : adc m s =
    (s.withAc (BitVec.ofNat 8 (adcHigh s.p s.ac m))).withP
      (setNVZC s.p ((adcLow s.p s.ac m).testBit 7) (overflowAdd s.ac m (BitVec.ofNat 8 (adcLow s.p s.ac m)))
        (adcSum s.p s.ac m % 256 == 0) (decide (adcHigh s.p s.ac m > 0xFF))) := by
  cases hd : getFlag s.p .d <;> simp [adc, adcResult, adcHigh, adcLow, adcSum, hd]

/-- ADC in every form: AC and four flags from the three numbers, PC and CYC as the form lists, nothing else. -/
theorem exec_adcForms {b : Byte} {w : Addr} {f : Form ReadOperand} (hf : f ∈ adcForms b w) (s : State) :
    let m8 := f.operand.value s
    f.hasOpcode ∧
    ∃ p', exec f.instr s = .next { f.after (f.operand.crossed s) s with
        ac := BitVec.ofNat 8 (adcHigh s.p s.ac m8), p := p' } ∧
      FlagsBecome s.p p'
        [(.n, (adcLow s.p s.ac m8).testBit 7),
         (.v, overflowAdd s.ac m8 (BitVec.ofNat 8 (adcLow s.p s.ac m8))),
         (.z, adcSum s.p s.ac m8 % 256 == 0),
         (.c, decide (adcHigh s.p s.ac m8 > 0xFF))] := by
  intro m8
  have hread : f ∈ readForms b w := by simp [readForms, hf]
  have hrun : ∀ f ∈ adcForms b w, exec f.instr s = runRead f.instr f.operand adc s := List.map_inj_left.1 rfl
  obtain ⟨hop, hexec⟩ := exec_readForms hread (hrun f hf)
  rw [adc_eq] at hexec
  exact ⟨hop, _, hexec, flagsBecome_setNVZC _ _ _ _ _⟩

/-- Settles O28: the rule's numbers are `adcSum`, `adcLow` and `adcHigh`. -/
theorem adcEveryForm : Obligations.AdcEveryForm := by
  unfold Obligations.AdcEveryForm
  exact fun b w s f hf => exec_adcForms hf s

/-! ### Binary mode -/

/-- With D = 0 neither correction is made. -/
theorem adcLow_of_binary {p : Byte} (hd : getFlag p .d = false) (a m : Byte) : adcLow p a m = adcSum p a m := by
  simp [adcLow, hd]

theorem adcHigh_of_binary {p : Byte} (hd : getFlag p .d = false) (a m : Byte) : adcHigh p a m = adcSum p a m := by
  simp [adcHigh, adcLow_of_binary hd, hd]

/-- Settles O29: N and Z by the low byte of the exact sum, V by `overflowAdd_sum`. -/
theorem adcBinaryLaw : Obligations.AdcBinaryLaw := by
  unfold Obligations.AdcBinaryLaw
  intro b w s f hf hd m8 sum signed
  obtain ⟨-, p', hexec, hflags⟩ := exec_adcForms hf s
  rw [adcHigh_of_binary hd] at hexec hflags
  rw [adcLow_of_binary hd] at hflags
  have hac : (BitVec.ofNat 8 sum).toNat = sum % 256 := BitVec.toNat_ofNat sum 8
  have hz : (sum % 256 == 0) = decide ((BitVec.ofNat 8 sum).toNat = 0) := by
    rw [hac]
    rfl
  have hn : sum.testBit 7 = decide (128 ≤ (BitVec.ofNat 8 sum).toNat) := by
    rw [hac, testBit_seven]
  exact ⟨_, hexec, hac, hflags .c, (hflags .z).trans hz, (hflags .n).trans hn,
    (hflags .v).trans (overflowAdd_sum s.ac m8 (s.flag .c))⟩

/-! ### Decimal mode -/

/-- On decimal digits the two corrections carry from digit to digit. -/
theorem adcHigh_packsDecimal {p a m : Byte} (hd : getFlag p .d = true) (ha : ValidBcd a) (hm : ValidBcd m) :
    PacksDecimal (adcHigh p a m) ((bcd a + bcd m + bitNat (getFlag p .c) : Nat) : Int) := by
  obtain ⟨halo, hahi⟩ := ha
  obtain ⟨hmlo, hmhi⟩ := hm
  have hc : bitNat (getFlag p .c) ≤ 1 := by cases getFlag p .c <;> decide
  simp only [adcHigh, adcLow, adcSum, bcd, hd, true_and]
  generalize bitNat (getFlag p .c) = c at hc ⊢
  by_cases hlow : a.toNat % 16 + m.toNat % 16 + c > 9
  · rw [if_pos hlow]
    split
    · exact ⟨1, a.toNat / 16 + m.toNat / 16 + 1 - 10, a.toNat % 16 + m.toNat % 16 + c - 10, by omega⟩
    · exact ⟨0, a.toNat / 16 + m.toNat / 16 + 1, a.toNat % 16 + m.toNat % 16 + c - 10, by omega⟩
  · rw [if_neg hlow]
    split
    · exact ⟨1, a.toNat / 16 + m.toNat / 16 - 10, a.toNat % 16 + m.toNat % 16 + c, by omega⟩
    · exact ⟨0, a.toNat / 16 + m.toNat / 16, a.toNat % 16 + m.toNat % 16 + c, by omega⟩

/-- Settles O30: AC and C from `adcHigh_packsDecimal`. -/
theorem adcAddsDecimalDigits : Obligations.AdcAddsDecimalDigits := by
  unfold Obligations.AdcAddsDecimalDigits
  intro b w s f hf hd ha hm sum
  obtain ⟨-, p', hexec, hflags⟩ := exec_adcForms hf s
  rw [← BitVec.ofInt_natCast] at hexec
  have hpacks := adcHigh_packsDecimal hd ha hm
  obtain ⟨hvalid, hbcd⟩ := hpacks.ofInt
  have hcarry : adcHigh s.p s.ac (f.operand.value s) > 0xFF ↔ sum ≥ 100 := by exact_mod_cast hpacks.carry_iff
  exact ⟨_, hexec, hvalid, by exact_mod_cast hbcd, (hflags .c).trans (decide_eq_decide.2 hcarry)⟩

end Sys2Proof.Machine
end

section
/-! PROOF. SBC: all eight forms (O31), N, Z and V in both modes (O32), decimal subtraction (O33). -/

namespace Sys2Proof.Machine

open Sys2Proof.Claims

/-! ### The three exact integers of 41_arithmetic.md R131 -/

/-- The borrow. -/
def sbcBorrow (p : Byte) : Int := 1 - (bitNat (getFlag p .c) : Int)

/-- `r`, the uncorrected difference. -/
def sbcDiff (p a m : Byte) : Int := (a.toNat : Int) - (m.toNat : Int) - sbcBorrow p

/-- `r` after the correction of the low digit (decision D10). -/
def sbcLow (p a m : Byte) : Int :=
  if getFlag p .d = true ∧ (a.toNat : Int) % 16 - sbcBorrow p < (m.toNat : Int) % 16 then sbcDiff p a m - 0x06
  else sbcDiff p a m

/-- `r` after both corrections. -/
def sbcHigh (p a m : Byte) : Int :=
  if getFlag p .d = true ∧ (sbcLow p a m < 0 ∨ sbcLow p a m > 0x99) then sbcLow p a m - 0x60 else sbcLow p a m

theorem getLsbD_seven_ofInt (r : Int) : (BitVec.ofInt 8 r).getLsbD 7 = decide (128 ≤ r % 256) := by
  have h : (BitVec.ofInt 8 r).getLsbD 7 = (BitVec.ofInt 8 r).msb := (BitVec.msb_eq_getLsbD_last _).symm
  rw [h, byte_msb, BitVec.toNat_ofInt, decide_eq_decide]
  omega

theorem ofInt_beq_zero (r : Int) : (BitVec.ofInt 8 r == 0) = decide (r % 256 = 0) := by
  rw [Bool.eq_iff_iff, beq_iff_eq, decide_eq_true_iff, ← BitVec.toNat_inj, BitVec.toNat_ofInt]
  show (r % 256).toNat = 0 ↔ _
  omega

/-- SBC from the three integers, in both modes: N, V and Z from the uncorrected one. -/
theorem sbc_eq (m : Byte) (s : State) : sbc m s =
    (s.withAc (BitVec.ofInt 8 (sbcHigh s.p s.ac m))).withP
      (setNVZC s.p (decide (128 ≤ sbcDiff s.p s.ac m % 256)) (overflowSub s.ac m (BitVec.ofInt 8 (sbcDiff s.p s.ac m)))
        (decide (sbcDiff s.p s.ac m % 256 = 0)) (decide (0 ≤ sbcHigh s.p s.ac m))) := by
  rw [← getLsbD_seven_ofInt, ← ofInt_beq_zero]
  cases hd : getFlag s.p .d <;> simp [sbc, sbcResult, sbcHigh, sbcLow, sbcDiff, sbcBorrow, hd]

/-- SBC in every form: AC and four flags from the three integers, PC and CYC as the form lists, nothing else. -/
theorem exec_sbcForms {b : Byte} {w : Addr} {f : Form ReadOperand} (hf : f ∈ sbcForms b w) (s : State) :
    let m8 := f.operand.value s
    f.hasOpcode ∧
    ∃ p', exec f.instr s = .next { f.after (f.operand.crossed s) s with
        ac := BitVec.ofInt 8 (sbcHigh s.p s.ac m8), p := p' } ∧
      FlagsBecome s.p p'
        [(.n, decide (128 ≤ sbcDiff s.p s.ac m8 % 256)),
         (.v, overflowSub s.ac m8 (BitVec.ofInt 8 (sbcDiff s.p s.ac m8))),
         (.z, decide (sbcDiff s.p s.ac m8 % 256 = 0)),
         (.c, decide (0 ≤ sbcHigh s.p s.ac m8))] := by
  intro m8
  have hread : f ∈ readForms b w := by simp [readForms, hf]
  have hrun : ∀ f ∈ sbcForms b w, exec f.instr s = runRead f.instr f.operand sbc s := List.map_inj_left.1 rfl
  obtain ⟨hop, hexec⟩ := exec_readForms hread (hrun f hf)
  rw [sbc_eq] at hexec
  exact ⟨hop, _, hexec, flagsBecome_setNVZC _ _ _ _ _⟩

/-- Settles O31: the rule's integers are `sbcDiff`, `sbcLow` and `sbcHigh`. -/
theorem sbcEveryForm : Obligations.SbcEveryForm := by
  unfold Obligations.SbcEveryForm
  exact fun b w s f hf => exec_sbcForms hf s

/-! ### The flags of the binary difference -/

/-- With D = 0 neither correction is made. -/
theorem sbcHigh_of_binary {p : Byte} (hd : getFlag p .d = false) (a m : Byte) : sbcHigh p a m = sbcDiff p a m := by
  simp [sbcHigh, sbcLow, hd]

/-- The borrow as a natural number. -/
theorem sbcBorrow_eq (p : Byte) : sbcBorrow p = ((1 - bitNat (getFlag p .c) : Nat) : Int) := by
  unfold sbcBorrow
  cases getFlag p .c <;> rfl

/-- The difference mod 256 in natural numbers. -/
theorem sbcDiff_emod (p a m : Byte) :
    sbcDiff p a m % 256 = (((a.toNat + 512 - m.toNat - (1 - bitNat (getFlag p .c))) % 256 : Nat) : Int) := by
  have hm := m.isLt
  rw [sbcDiff, sbcBorrow_eq]
  omega

/-- V of SBC is V of ADC with the complement of M8. -/
theorem overflowSub_eq (a m r : Byte) : overflowSub a m r = overflowAdd a (~~~m) r := by
  rw [overflowAdd_eq, overflowSub, and_0x80_ne_zero, BitVec.msb_and, BitVec.msb_xor, BitVec.msb_xor, BitVec.msb_not]
  cases a.msb <;> cases m.msb <;> cases r.msb <;> rfl

/-- The low byte of the exact difference is that of the sum with the complement of M8. -/
theorem ofInt_sbcDiff (p a m : Byte) :
    BitVec.ofInt 8 (sbcDiff p a m) = BitVec.ofNat 8 (a.toNat + (~~~m).toNat + bitNat (getFlag p .c)) := by
  have hm := m.isLt
  apply BitVec.eq_of_toNat_eq
  rw [BitVec.toNat_ofInt, BitVec.toNat_ofNat, BitVec.toNat_not, sbcDiff, sbcBorrow]
  omega

theorem byte_toInt_not (m : Byte) : (~~~m).toInt = -m.toInt - 1 := by
  have hm := m.isLt
  rw [byte_toInt, byte_toInt, BitVec.toNat_not]
  split <;> split <;> omega

/-- On the low byte of the exact difference, V of SBC is the signed difference out of range (R131, overflow). -/
theorem overflowSub_sbcDiff (p a m : Byte) : overflowSub a m (BitVec.ofInt 8 (sbcDiff p a m)) =
    decide (a.toInt - m.toInt - sbcBorrow p < -128 ∨ 127 < a.toInt - m.toInt - sbcBorrow p) := by
  have hsigned : a.toInt + (~~~m).toInt + (bitNat (getFlag p .c) : Int) = a.toInt - m.toInt - sbcBorrow p := by
    rw [byte_toInt_not, sbcBorrow]
    ring
  rw [overflowSub_eq, ofInt_sbcDiff, overflowAdd_sum, hsigned]

/-- Settles O32: N, Z and V come from the uncorrected difference, V by `overflowSub_sbcDiff`. -/
theorem sbcFlagsSameInBothModes : Obligations.SbcFlagsSameInBothModes := by
  unfold Obligations.SbcFlagsSameInBothModes
  intro b w s f hf m8 bw diff signed
  obtain ⟨-, p', hexec, hflags⟩ := exec_sbcForms hf s
  have hdiff : sbcDiff s.p s.ac m8 % 256 = (diff : Int) := sbcDiff_emod s.p s.ac m8
  have hbw : sbcBorrow s.p = (bw : Int) := sbcBorrow_eq s.p
  have hn : 128 ≤ sbcDiff s.p s.ac m8 % 256 ↔ 128 ≤ diff := by omega
  have hz : sbcDiff s.p s.ac m8 % 256 = 0 ↔ diff = 0 := by omega
  have hv := overflowSub_sbcDiff s.p s.ac m8
  rw [hbw] at hv
  refine ⟨_, hexec, (hflags .n).trans (decide_eq_decide.2 hn), (hflags .z).trans (decide_eq_decide.2 hz),
    (hflags .v).trans hv, fun hd => ⟨?_, ?_⟩⟩
  · show (BitVec.ofInt 8 (sbcHigh s.p s.ac m8)).toNat = diff
    rw [sbcHigh_of_binary hd, BitVec.toNat_ofInt]
    exact congrArg Int.toNat hdiff
  · have hc : 0 ≤ sbcHigh s.p s.ac m8 ↔ m8.toNat + bw ≤ s.ac.toNat := by
      rw [sbcHigh_of_binary hd, sbcDiff, hbw]
      omega
    exact (hflags .c).trans (decide_eq_decide.2 hc)

/-! ### Decimal mode -/

/-- On decimal digits the two corrections borrow from digit to digit. -/
theorem sbcHigh_packsDecimal {p a m : Byte} (hd : getFlag p .d = true) (ha : ValidBcd a) (hm : ValidBcd m) :
    PacksDecimal (sbcHigh p a m) ((bcd a : Int) - (bcd m : Int) - sbcBorrow p) := by
  obtain ⟨halo, hahi⟩ := ha
  obtain ⟨hmlo, hmhi⟩ := hm
  have hbw : 0 ≤ sbcBorrow p ∧ sbcBorrow p ≤ 1 := by unfold sbcBorrow; cases getFlag p .c <;> decide
  simp only [sbcHigh, sbcLow, sbcDiff, bcd, hd, true_and]
  generalize sbcBorrow p = bw at hbw ⊢
  by_cases hlow : (a.toNat : Int) % 16 - bw < (m.toNat : Int) % 16
  · rw [if_pos hlow]
    split
    · exact ⟨-1, a.toNat / 16 - m.toNat / 16 - 1 + 10, a.toNat % 16 - bw - m.toNat % 16 + 10, by omega⟩
    · exact ⟨0, a.toNat / 16 - m.toNat / 16 - 1, a.toNat % 16 - bw - m.toNat % 16 + 10, by omega⟩
  · rw [if_neg hlow]
    split
    · exact ⟨-1, a.toNat / 16 - m.toNat / 16 + 10, a.toNat % 16 - bw - m.toNat % 16, by omega⟩
    · exact ⟨0, a.toNat / 16 - m.toNat / 16, a.toNat % 16 - bw - m.toNat % 16, by omega⟩

/-- Settles O33: AC and C from `sbcHigh_packsDecimal`. -/
theorem sbcSubtractsDecimalDigits : Obligations.SbcSubtractsDecimalDigits := by
  unfold Obligations.SbcSubtractsDecimalDigits
  intro b w s f hf hd ha hm diff
  obtain ⟨-, p', hexec, hflags⟩ := exec_sbcForms hf s
  have hpacks := sbcHigh_packsDecimal hd ha hm
  obtain ⟨hvalid, hbcd⟩ := hpacks.ofInt
  exact ⟨_, hexec, hvalid, hbcd, (hflags .c).trans (decide_eq_decide.2 hpacks.nonneg_iff)⟩

end Sys2Proof.Machine
end

section
/-! PROOF. Logic (O34), compare (O35) and bit test (O36), in every form. -/

namespace Sys2Proof.Machine

open Sys2Proof.Claims

section
variable {b : Byte} {w : Addr} {f : Form ReadOperand} {s : State} {sem : Byte → State → State}
  (hf : f ∈ readForms b w) (hrun : exec f.instr s = runRead f.instr f.operand sem s)
include hf hrun

/-- A reading form whose semantics assigns AC and P. -/
theorem exec_readForms_ac_p {r p' : Byte}
    (hsem : ∀ n, sem (f.operand.value s) (s.advance n) = ((s.advance n).withAc r).withP p') :
    f.hasOpcode ∧ exec f.instr s = .next { f.after (f.operand.crossed s) s with ac := r, p := p' } := by
  obtain ⟨hop, hexec⟩ := exec_readForms hf hrun
  rw [hsem] at hexec
  exact ⟨hop, hexec⟩

/-- A reading form whose semantics assigns P alone. -/
theorem exec_readForms_p {p' : Byte}
    (hsem : ∀ n, sem (f.operand.value s) (s.advance n) = (s.advance n).withP p') :
    f.hasOpcode ∧ exec f.instr s = .next { f.after (f.operand.crossed s) s with p := p' } :=
  exec_readForms_ac_p hf hrun (r := s.ac) hsem

end

/-! ### Logic -/

theorem flagsBecome_setNZ (p v : Byte) : FlagsBecome p (setNZ p v) [(.n, v.getLsbD 7), (.z, v == 0)] := fun f => by
  cases f <;> simp [assigned]

/-- Settles O34: each of the three semantics loads AC with its operation's result. -/
theorem logicEveryForm : Obligations.LogicEveryForm := by
  unfold Obligations.LogicEveryForm
  intro b w s op f h r
  have hand : ∀ f ∈ andForms b w, exec f.instr s = runRead f.instr f.operand andAc s := List.map_inj_left.1 rfl
  have hora : ∀ f ∈ oraForms b w, exec f.instr s = runRead f.instr f.operand oraAc s := List.map_inj_left.1 rfl
  have heor : ∀ f ∈ eorForms b w, exec f.instr s = runRead f.instr f.operand eorAc s := List.map_inj_left.1 rfl
  have hread : f ∈ readForms b w := by
    obtain ⟨-, hf⟩ | ⟨-, hf⟩ | ⟨-, hf⟩ := h <;> simp [readForms, hf]
  obtain ⟨hop, hexec⟩ : f.hasOpcode ∧
      exec f.instr s = .next { f.after (f.operand.crossed s) s with ac := r, p := setNZ s.p r } := by
    obtain ⟨rfl, hf⟩ | ⟨rfl, hf⟩ | ⟨rfl, hf⟩ := h
    · exact exec_readForms_ac_p hread (hand f hf) fun _ => rfl
    · exact exec_readForms_ac_p hread (hora f hf) fun _ => rfl
    · exact exec_readForms_ac_p hread (heor f hf) fun _ => rfl
  exact ⟨hop, _, hexec, flagsBecome_setNZ s.p r⟩

/-! ### Compare -/

theorem sub_getLsbD_seven (x y : Byte) : (x - y).getLsbD 7 = decide (128 ≤ (x.toNat + 256 - y.toNat) % 256) := by
  have h : (x - y).getLsbD 7 = (x - y).msb := (BitVec.msb_eq_getLsbD_last _).symm
  rw [h, byte_msb, decide_eq_decide]
  bv_omega

theorem sub_beq_zero (x y : Byte) : (x - y == 0) = decide (x.toNat = y.toNat) := by
  rw [Bool.eq_iff_iff, beq_iff_eq, decide_eq_true_iff]
  bv_omega

/-- `Compare` in numbers (42_logic_compare_bit.md R143). -/
theorem flagsBecome_compareFlags (p reg m : Byte) : FlagsBecome p (compareFlags p reg m)
    [(.n, decide (128 ≤ (reg.toNat + 256 - m.toNat) % 256)), (.z, decide (reg.toNat = m.toNat)),
     (.c, decide (m.toNat ≤ reg.toNat))] := fun f => by
  cases f <;> simp [assigned, ← sub_getLsbD_seven, ← sub_beq_zero]

/-- Settles O35: each of the three semantics is `compareFlags` of its register. -/
theorem compareEveryForm : Obligations.CompareEveryForm := by
  unfold Obligations.CompareEveryForm
  intro b w s reg f h m t
  have hcmp : ∀ f ∈ cmpForms b w, exec f.instr s = runRead f.instr f.operand cmp s := List.map_inj_left.1 rfl
  have hcpx : ∀ f ∈ cpxForms b w, exec f.instr s = runRead f.instr f.operand cpx s := List.map_inj_left.1 rfl
  have hcpy : ∀ f ∈ cpyForms b w, exec f.instr s = runRead f.instr f.operand cpy s := List.map_inj_left.1 rfl
  have hread : f ∈ readForms b w := by
    obtain ⟨-, hf⟩ | ⟨-, hf⟩ | ⟨-, hf⟩ := h <;> simp [readForms, hf]
  obtain ⟨hop, hexec⟩ : f.hasOpcode ∧ exec f.instr s =
      .next { f.after (f.operand.crossed s) s with p := compareFlags s.p reg (f.operand.value s) } := by
    obtain ⟨rfl, hf⟩ | ⟨rfl, hf⟩ | ⟨rfl, hf⟩ := h
    · exact exec_readForms_p hread (hcmp f hf) fun _ => rfl
    · exact exec_readForms_p hread (hcpx f hf) fun _ => rfl
    · exact exec_readForms_p hread (hcpy f hf) fun _ => rfl
  exact ⟨hop, _, hexec, flagsBecome_compareFlags s.p reg (f.operand.value s)⟩

/-! ### Bit test -/

theorem flagsBecome_bitTestFlags (p ac m : Byte) : FlagsBecome p (bitTestFlags p ac m)
    [(.z, (ac &&& m) == 0), (.n, m.getLsbD 7), (.v, m.getLsbD 6)] := fun f => by
  cases f <;> simp [assigned]

/-- Settles O36: BIT assigns `bitTestFlags` and nothing else. -/
theorem bitTestEveryForm : Obligations.BitTestEveryForm := by
  unfold Obligations.BitTestEveryForm
  intro b w s f hf m8
  have hbit : ∀ f ∈ bitForms b w, exec f.instr s = runRead f.instr f.operand bitTest s := List.map_inj_left.1 rfl
  have hread : f ∈ readForms b w := by simp [readForms, hf]
  obtain ⟨hop, hexec⟩ := exec_readForms_p hread (hbit f hf) (p' := bitTestFlags s.p s.ac m8) fun _ => rfl
  exact ⟨hop, _, hexec, flagsBecome_bitTestFlags s.p s.ac m8⟩

end Sys2Proof.Machine
end

section
/-! PROOF. A form that reads its target and writes it back, from the tables of forms: its opcode, and its outcome on AC
and on a memory cell. -/

namespace Sys2Proof.Machine

open Sys2Proof.Claims

theorem hasOpcode_rmwForms (b : Byte) (w : Addr) : ∀ f ∈ rmwForms b w, f.hasOpcode := by
  simp only [rmwForms, List.forall_mem_append, and_assoc]
  and_intros <;> exact List.map_inj_left.1 rfl

theorem length_rmwForms (b : Byte) (w : Addr) : ∀ f ∈ rmwForms b w, f.operand.length = f.length := by
  simp only [rmwForms, List.forall_mem_append, and_assoc]
  and_intros <;> exact List.map_inj_left.1 rfl

section
variable {b : Byte} {w : Addr} {f : Form RmwTarget} {s : State} {sem : Byte → Byte → Byte × Byte} {r p' : Byte}
  (hf : f ∈ rmwForms b w) (hrun : exec f.instr s = runRmw f.instr f.operand sem s)
  (hsem : sem (f.operand.value s) s.p = (r, p'))
include hf hrun hsem

/-- A form that runs in the frame of the read-modify-write instructions, with the length and the cost that it lists. -/
theorem exec_rmwForms : exec f.instr s = .next ((f.operand.store s ((s.advance f.length).withP p') r).charge
    (f.base + (if f.crossAdds && f.operand.crossed s then 1 else 0))) := by
  rw [hrun, runRmw_eq, hsem, length_rmwForms b w f hf, cost_of_cycleTable (cycleTable_rmwForms b w f hf)]

/-- On AC it assigns AC and P. -/
theorem exec_rmwForms_accumulator (hacc : f.operand = .accumulator) :
    exec f.instr s = .next { f.after false s with ac := r, p := p' } := by
  rw [exec_rmwForms hf hrun hsem, hacc]
  rfl

/-- On memory it assigns P and writes the cell it read, unless the write is discarded (43_shift_incdec.md R160). -/
theorem exec_rmwForms_memory {m : MemMode} (hmem : f.operand = .memory m) :
    ∃ m', exec f.instr s = .next { f.after (m.crossed s) s with p := p', mem := m' } ∧
      MemoryBecomes s m' (admitted s (m.ea s) r) := by
  refine ⟨_, ?_, ((s.advance f.length).withP p').memoryBecomes_writeByte (m.ea s) r⟩
  rw [exec_rmwForms hf hrun hsem, hmem, RmwTarget.store, State.writeByte_eq_withMem]
  rfl

end

end Sys2Proof.Machine
end

section
/-! PROOF. Shift and rotate (O37), increment and decrement of memory (O38) and of the index registers (O39). -/

namespace Sys2Proof.Machine

open Sys2Proof.Claims

/-! ### Shift and rotate -/

theorem flagsBecome_setNZC (p r : Byte) (c : Bool) :
    FlagsBecome p (setNZC p r c) [(.n, r.getLsbD 7), (.z, r == 0), (.c, c)] := fun f => by
  cases f <;> simp [assigned]

theorem shiftLeft_one_toNat (v : Byte) : (v <<< 1).toNat = 2 * v.toNat % 256 := by
  rw [BitVec.toNat_shiftLeft, Nat.shiftLeft_eq, Nat.mul_comm]

theorem shiftRight_one_toNat (v : Byte) : (v >>> 1).toNat = v.toNat / 2 := by
  rw [BitVec.toNat_ushiftRight, Nat.shiftRight_eq_div_pow]

/-- The bit that a left shift leaves free takes the carry. -/
theorem shiftLeft_one_or_toNat (v : Byte) (c : Bool) :
    ((v <<< 1) ||| BitVec.ofNat 8 (bitNat c)).toNat = (2 * v.toNat + bitNat c) % 256 := by
  have hdisjoint : (v <<< 1) &&& BitVec.ofNat 8 (bitNat c) = 0#8 := by
    cases c
    · simp [bitNat]
    · exact (BitVec.and_twoPow (v <<< 1) 0).trans (by simp)
  rw [← BitVec.add_eq_or_of_and_eq_zero _ _ hdisjoint, BitVec.toNat_add, shiftLeft_one_toNat, BitVec.toNat_ofNat]
  omega

/-- The bit that a right shift leaves free takes the carry. -/
theorem shiftRight_one_or_toNat (v : Byte) (c : Bool) :
    ((v >>> 1) ||| (BitVec.ofNat 8 (bitNat c) <<< 7)).toNat = v.toNat / 2 + 128 * bitNat c := by
  have hv := v.isLt
  have hdisjoint : (v >>> 1) &&& (BitVec.ofNat 8 (bitNat c) <<< 7) = 0#8 := by
    cases c
    · simp [bitNat]
    · exact (BitVec.and_twoPow (v >>> 1) 7).trans (by simp)
  rw [← BitVec.add_eq_or_of_and_eq_zero _ _ hdisjoint, BitVec.toNat_add, shiftRight_one_toNat]
  cases c <;> simp [bitNat] <;> omega

section
variable {v r : Byte} (p : Byte)

theorem aslResult_eq (h : r.toNat = 2 * v.toNat % 256) : aslResult v p = (r, setNZC p r (v.getLsbD 7)) := by
  obtain rfl : r = v <<< 1 := BitVec.eq_of_toNat_eq (h.trans (shiftLeft_one_toNat v).symm)
  rfl

theorem lsrResult_eq (h : r.toNat = v.toNat / 2) : lsrResult v p = (r, setNZC p r (v.getLsbD 0)) := by
  obtain rfl : r = v >>> 1 := BitVec.eq_of_toNat_eq (h.trans (shiftRight_one_toNat v).symm)
  rfl

theorem rolResult_eq (h : r.toNat = (2 * v.toNat + bitNat (getFlag p .c)) % 256) :
    rolResult v p = (r, setNZC p r (v.getLsbD 7)) := by
  obtain rfl := BitVec.eq_of_toNat_eq (h.trans (shiftLeft_one_or_toNat v (getFlag p .c)).symm)
  rfl

theorem rorResult_eq (h : r.toNat = v.toNat / 2 + 128 * bitNat (getFlag p .c)) :
    rorResult v p = (r, setNZC p r (v.getLsbD 0)) := by
  obtain rfl := BitVec.eq_of_toNat_eq (h.trans (shiftRight_one_or_toNat v (getFlag p .c)).symm)
  rfl

end

/-- Settles O37: each of the four semantics gives the rule's byte and its three flags; the target takes the byte. -/
theorem shiftRotateEveryForm : Obligations.ShiftRotateEveryForm := by
  unfold Obligations.ShiftRotateEveryForm
  intro b w s f v r out hv h
  have hasl : ∀ f ∈ aslForms b w, exec f.instr s = runRmw f.instr f.operand aslResult s := List.map_inj_left.1 rfl
  have hlsr : ∀ f ∈ lsrForms b w, exec f.instr s = runRmw f.instr f.operand lsrResult s := List.map_inj_left.1 rfl
  have hrol : ∀ f ∈ rolForms b w, exec f.instr s = runRmw f.instr f.operand rolResult s := List.map_inj_left.1 rfl
  have hror : ∀ f ∈ rorForms b w, exec f.instr s = runRmw f.instr f.operand rorResult s := List.map_inj_left.1 rfl
  have hrmw : f ∈ rmwForms b w := by
    obtain ⟨hf, -⟩ | ⟨hf, -⟩ | ⟨hf, -⟩ | ⟨hf, -⟩ := h <;> simp [rmwForms, hf]
  obtain ⟨sem, hrun, hsem⟩ : ∃ sem, exec f.instr s = runRmw f.instr f.operand sem s ∧
      sem v s.p = (r, setNZC s.p r out) := by
    obtain ⟨hf, hr, rfl⟩ | ⟨hf, hr, rfl⟩ | ⟨hf, hr, rfl⟩ | ⟨hf, hr, rfl⟩ := h
    · exact ⟨_, hasl f hf, aslResult_eq s.p hr⟩
    · exact ⟨_, hlsr f hf, lsrResult_eq s.p hr⟩
    · exact ⟨_, hrol f hf, rolResult_eq s.p hr⟩
    · exact ⟨_, hror f hf, rorResult_eq s.p hr⟩
  subst hv
  refine ⟨hasOpcode_rmwForms b w f hrmw, _, flagsBecome_setNZC s.p r out, ?_⟩
  split
  · next hacc => exact ⟨congrArg (RmwTarget.value s) hacc, exec_rmwForms_accumulator hrmw hrun hsem hacc⟩
  · next m hmem => exact ⟨congrArg (RmwTarget.value s) hmem, exec_rmwForms_memory hrmw hrun hsem hmem⟩

/-! ### Increment and decrement -/

theorem eq_add_one_of_toNat {v r : Byte} (h : r.toNat = (v.toNat + 1) % 256) : r = v + 1 :=
  BitVec.eq_of_toNat_eq (h.trans (BitVec.toNat_add v 1).symm)

theorem eq_sub_one_of_toNat {v r : Byte} (h : r.toNat = (v.toNat + 255) % 256) : r = v - 1 := by
  bv_omega

/-- Settles O38: both semantics give the counted byte with N and Z; the cell takes the byte. -/
theorem incDecMemoryEveryForm : Obligations.IncDecMemoryEveryForm := by
  unfold Obligations.IncDecMemoryEveryForm
  intro b w s f m r hmem h
  have hinc : ∀ f ∈ incForms b w, exec f.instr s = runRmw f.instr f.operand incResult s := List.map_inj_left.1 rfl
  have hdec : ∀ f ∈ decForms b w, exec f.instr s = runRmw f.instr f.operand decResult s := List.map_inj_left.1 rfl
  have hrmw : f ∈ rmwForms b w := by
    obtain ⟨hf, -⟩ | ⟨hf, -⟩ := h <;> simp [rmwForms, hf]
  have hvalue : f.operand.value s = s.readByte (m.ea s) := congrArg (RmwTarget.value s) hmem
  obtain ⟨sem, hrun, hsem⟩ : ∃ sem, exec f.instr s = runRmw f.instr f.operand sem s ∧
      sem (f.operand.value s) s.p = (r, setNZ s.p r) := by
    rw [hvalue]
    obtain ⟨hf, hr⟩ | ⟨hf, hr⟩ := h
    · obtain rfl := eq_add_one_of_toNat hr
      exact ⟨_, hinc f hf, rfl⟩
    · obtain rfl := eq_sub_one_of_toNat hr
      exact ⟨_, hdec f hf, rfl⟩
  obtain ⟨m', hexec, hm'⟩ := exec_rmwForms_memory hrmw hrun hsem hmem
  exact ⟨hasOpcode_rmwForms b w f hrmw, _, m', hexec, flagsBecome_setNZ s.p r, hm'⟩

/-- Settles O39: each of the four loads its register with the counted byte. -/
theorem incDecIndexRegisters : Obligations.IncDecIndexRegisters := by
  unfold Obligations.IncDecIndexRegisters
  intro s r
  refine ⟨fun h => ?_, fun h => ?_, fun h => ?_, fun h => ?_⟩
  · obtain rfl := eq_add_one_of_toNat h
    exact ⟨rfl, _, rfl, flagsBecome_setNZ s.p (s.ix + 1)⟩
  · obtain rfl := eq_add_one_of_toNat h
    exact ⟨rfl, _, rfl, flagsBecome_setNZ s.p (s.iy + 1)⟩
  · obtain rfl := eq_sub_one_of_toNat h
    exact ⟨rfl, _, rfl, flagsBecome_setNZ s.p (s.ix - 1)⟩
  · obtain rfl := eq_sub_one_of_toNat h
    exact ⟨rfl, _, rfl, flagsBecome_setNZ s.p (s.iy - 1)⟩

end Sys2Proof.Machine
end

section
/-! PROOF. The branches (O40): opcode, target, cost and frame of each of the eight forms. -/

namespace Sys2Proof.Machine

open Sys2Proof.Claims

theorem encode_branchForms (off : Byte) : ∀ f ∈ branchForms off, encode f.1 = [f.2.1, off] :=
  List.map_inj_left.1 rfl

/-- A branch costs 2 not taken, 3 taken in the page, 4 taken to another page (70_reset_and_hazards.md R353). -/
theorem cost_branchForms {off : Byte} {f : Instr × Byte × Flag × Bool} (hf : f ∈ branchForms off)
    (crossed taken : Bool) :
    cost f.1 crossed taken = if taken then (if crossed then 4 else 3) else 2 := by
  rw [cost, cycleTable_branchForms off f hf]
  cases taken <;> cases crossed <;> rfl

/-- Settles O40: the target's number is `add_sext16_toNat`'s, the page test `hi_ne_iff`'s, the cost `cost_branchForms`'s. -/
theorem branchEveryForm : Obligations.BranchEveryForm := by
  unfold Obligations.BranchEveryForm
  intro off s f hf next taken
  refine ⟨branchTarget off s, add_sext16_toNat next off, encode_branchForms off f hf, ?_⟩
  have htaken : decide (s.flag f.2.2.1 = f.2.2.2) = taken := (Bool.beq_eq_decide_eq _ _).symm
  have hpage : (hi (branchTarget off s) != hi (branchNext s)) =
      decide ((branchTarget off s).toNat / 256 ≠ next.toNat / 256) := hi_ne_iff _ _
  rw [exec_branchForms off s f hf, htaken, runBranch_eq, cost_branchForms hf, hpage]
  clear_value taken
  cases taken with
  | false => rfl
  | true =>
    by_cases hcross : (branchTarget off s).toNat / 256 ≠ next.toNat / 256
    · rw [decide_eq_true hcross, if_pos hcross]
      rfl
    · rw [decide_eq_false hcross, if_neg hcross]
      rfl

end Sys2Proof.Machine
end

section
/-! PROOF. The stack instructions: PHA and PHP (O41), PLA and PLP (O42). -/

namespace Sys2Proof.Machine

open Sys2Proof.Claims

/-- A push instruction's whole step: the push happens after PC has moved, which neither SP nor the cell depends on. -/
theorem exec_push {i : Instr} {sem : State → State} {s : State} {v : Byte} (hrun : exec i s = runImplicit i sem s)
    (hsem : sem (s.advance 1) = (s.advance 1).push v) (hcost : cost i false false = 3) :
    ∃ m', exec i s = .next { s with pc := s.pc + 1, cyc := s.cyc + 3, sp := s.sp - 1, mem := m' } ∧
      MemoryBecomes s m' [(stackCell s.sp, v)] := by
  refine ⟨((s.advance 1).push v).mem, ?_, (s.advance 1).memoryBecomes_push v⟩
  rw [hrun, runImplicit_eq, hsem, hcost, State.push_eq]
  rfl

/-- Settles O41: PHA and PHP are `exec_push` of AC and of P. -/
theorem pushAcAndP : Obligations.PushAcAndP := by
  unfold Obligations.PushAcAndP
  exact fun s => ⟨⟨rfl, exec_push (sem := pha) rfl rfl rfl⟩, ⟨rfl, exec_push (sem := php) rfl rfl rfl⟩⟩

/-- Settles O42: the flags PLA assigns are `setNZ`'s, those PLP assigns the pull invariant's. -/
theorem pullAcAndP : Obligations.PullAcAndP := by
  unfold Obligations.PullAcAndP
  intro s v
  exact ⟨⟨rfl, _, rfl, flagsBecome_setNZ s.p v⟩, ⟨rfl, rfl, flagsBecome_pulledP v⟩⟩

end Sys2Proof.Machine
end

section
/-! PROOF. Control transfer: JMP (O44), JSR and RTS (O45, O46, O49), BRK and RTI (O47, O48, O50). -/

namespace Sys2Proof.Machine

open Sys2Proof.Claims

/-- Settles O44: the targets by definition, the second pointer byte's address by `addr_succ_eq_ofNat`. -/
theorem jumpBothForms : Obligations.JumpBothForms := by
  unfold Obligations.JumpBothForms
  intro s w
  refine ⟨rfl, rfl, rfl, ?_⟩
  rw [← addr_succ_eq_ofNat]
  rfl

/-! ### The cells that pushes in a row leave -/

theorem assigned_of_notMem {κ β : Type} [DecidableEq κ] {key : κ} {l : List (κ × β)} (h : key ∉ l.map Prod.fst)
    (old : β) : assigned key old l = old := by
  induction l with
  | nil => rfl
  | cons kv l ih =>
    rw [List.map_cons, List.mem_cons, not_or] at h
    rw [assigned, if_neg h.1, ih h.2]

/-- A push into a cell that no write before it named adds that cell to what they left. -/
theorem memoryBecomes_push_of_fresh {s t : State} {writes : List (Addr × Byte)} (h : MemoryBecomes s t.mem writes)
    (hfresh : stackAddr t.sp ∉ writes.map Prod.fst) (v : Byte) :
    MemoryBecomes s (t.push v).mem (writes ++ [(stackAddr t.sp, v)]) := fun a => by
  have hread : (t.push v).mem.read a.toNat = if a = stackAddr t.sp then v else t.mem.read a.toNat := t.readByte_push v a
  rw [hread, assigned_append, assigned, assigned, h a]
  split
  · next ha => rw [assigned_of_notMem (ha ▸ hfresh)]
  · rfl

/-- Push16 stores the two bytes of its word, each in a cell of its own (20_memory.md R62). -/
theorem State.memoryBecomes_push16 (s : State) (w : Addr) :
    MemoryBecomes s (s.push16 w).mem [(stackAddr s.sp, hi w), (stackAddr (s.sp - 1), lo w)] :=
  memoryBecomes_push_of_fresh (s.memoryBecomes_push (hi w)) (by simp) (lo w)

/-- The trap stores the return address and P, each byte in a cell of its own (60_exceptions.md R304). -/
theorem State.memoryBecomes_takeTrap (s : State) (ret : Addr) :
    MemoryBecomes s (s.takeTrap ret).mem
      [(stackAddr s.sp, hi ret), (stackAddr (s.sp - 1), lo ret), (stackAddr (s.sp - 2), s.p)] := by
  have hsp : (s.push16 ret).sp = s.sp - 2 := by rw [State.push16_sp]; bv_omega
  have hne : s.sp - 1#8 - 1#8 ≠ s.sp := by bv_omega
  have hpush := memoryBecomes_push_of_fresh (s.memoryBecomes_push16 ret) (by simp [hne]) s.p
  rwa [hsp] at hpush

/-- The two cells a return address has been pushed into read back as that address, whatever was written after it. -/
theorem word_of_pushed_cells {s : State} {m' : Memory} {w : Addr} {later : List (Addr × Byte)}
    (h : MemoryBecomes s m' ((stackCell s.sp, hi w) :: (stackCell (s.sp - 1), lo w) :: later)) :
    word (m'.read (stackCell s.sp).toNat) (m'.read (stackCell (s.sp - 1)).toNat) = w := by
  have hne : stackCell (s.sp - 1) ≠ stackCell s.sp := stackAddr_inj.not.2 (by bv_omega)
  rw [h, h, assigned, if_pos rfl, assigned, if_neg hne, assigned, if_pos rfl, word_hi_lo]

/-! ### The call and its return -/

/-- Settles O45: the cells and SP are Push16's, the rest by definition. -/
theorem jsrPushesItsLastByte : Obligations.JsrPushesItsLastByte := by
  unfold Obligations.JsrPushesItsLastByte
  intro s w
  have hsp : s.sp - 1 - 1 = s.sp - 2 := by bv_omega
  have hexec : exec (.jsr w) s = .next (((s.push16 (s.pc + 2)).withPc w).charge 6) := rfl
  refine ⟨rfl, (s.push16 (s.pc + 2)).mem, ?_, s.memoryBecomes_push16 (s.pc + 2)⟩
  rw [hexec, State.push16_eq_with, hsp]
  rfl

/-- Settles O46: the word and SP are Pull16's. -/
theorem rtsReturnsPastPulledAddress : Obligations.RtsReturnsPastPulledAddress := by
  unfold Obligations.RtsReturnsPastPulledAddress
  intro s
  have hsp : s.sp + 2 = s.sp + 1 + 1 := by bv_omega
  rw [hsp]
  exact ⟨rfl, rfl⟩

/-- Settles O49 from O45 and O46: RTS reads the two cells JSR has written, at the SP JSR has left. -/
theorem jsrThenRtsReturns : Obligations.JsrThenRtsReturns := by
  unfold Obligations.JsrThenRtsReturns
  intro s w
  obtain ⟨-, m', hjsr, hmem⟩ := jsrPushesItsLastByte s w
  refine ⟨_, m', hjsr, ?_, fun a hhi hlo => ?_⟩
  · have hsp : s.sp - 2 + 1 = s.sp - 1 := by bv_omega
    have hsp' : s.sp - 2 + 2 = s.sp := by bv_omega
    have hpc : s.pc + 2 + 1 = s.pc + 3 := by bv_omega
    have hcyc : s.cyc + 6 + 6 = s.cyc + 12 := by bv_omega
    rw [(rtsReturnsPastPulledAddress _).2]
    simp only [State.readByte, hsp, hsp', word_of_pushed_cells hmem, hpc, hcyc]
  · rw [hmem, assigned_of_notMem (by simpa using ⟨hhi, hlo⟩)]

/-! ### The trap and its return -/

/-- The trap writes memory, SP, P and PC only (60_exceptions.md R304). -/
theorem State.takeTrap_eq_with (s : State) (ret : Addr) : s.takeTrap ret =
    (((s.withMem (s.takeTrap ret).mem).withSp (s.sp - 3)).withP (setFlag s.p .i true)).withPc (s.readWord 0xFFFE) := by
  have hsp : s.sp - 1 - 1 - 1 = s.sp - 3 := by bv_omega
  rw [State.takeTrap_eq, State.push_eq, State.push16_sp, hsp, State.push16_eq_with]
  rfl

/-- Settles O47: the cells are `memoryBecomes_takeTrap`'s, the other fields `takeTrap_eq_with`'s. -/
theorem brkTakesTrap : Obligations.BrkTakesTrap := by
  unfold Obligations.BrkTakesTrap
  intro s
  have hexec : exec .brk s = .next ((s.takeTrap (s.pc + 2)).charge 7) := rfl
  refine ⟨rfl, setFlag s.p .i true, (s.takeTrap (s.pc + 2)).mem, ?_, fun f => getFlag_setFlag s.p .i f true,
    s.memoryBecomes_takeTrap (s.pc + 2)⟩
  rw [hexec, State.takeTrap_eq_with]
  rfl

/-- Settles O48: it is `returnFromTrap_eq`, with SP counted from the start. -/
theorem rtiReturnsFromTrap : Obligations.RtiReturnsFromTrap := by
  unfold Obligations.RtiReturnsFromTrap
  intro s
  have hsp : s.sp + 2 = s.sp + 1 + 1 := by bv_omega
  have hsp' : s.sp + 3 = s.sp + 1 + 1 + 1 := by bv_omega
  have hexec : exec .rti s = .next ((s.advance 1).returnFromTrap.charge 6) := rfl
  rw [hsp, hsp', hexec, State.returnFromTrap_eq]
  exact ⟨rfl, rfl⟩

/-- P is what a pull of it makes of it where U and B are set (10_state.md R27, R30). -/
theorem pulledP_of_pullBitsSet {p : Byte} (h : PullBitsSet p) : pulledP p = p := eq_of_flags fun f => by
  obtain ⟨hu, hb⟩ := h
  rw [getFlag_pulledP]
  split
  · next hf =>
    obtain rfl | rfl := hf
    · exact hu.symm
    · exact hb.symm
  · rfl

/-- Settles O50 from O47 and O48: RTI reads the three cells BRK has written, at the SP BRK has left. -/
theorem brkThenRtiResumes : Obligations.BrkThenRtiResumes := by
  unfold Obligations.BrkThenRtiResumes
  intro s
  obtain ⟨-, p', m', hbrk, -, hmem⟩ := brkTakesTrap s
  refine ⟨_, m', pulledP s.p, hbrk, ?_, flagsBecome_pulledP s.p,
    fun hinv => pulledP_of_pullBitsSet ⟨hinv.unusedSet, hinv.breakSet⟩, fun a ha => ?_⟩
  · have hsp : s.sp - 3 + 1 = s.sp - 2 := by bv_omega
    have hsp' : s.sp - 3 + 2 = s.sp - 1 := by bv_omega
    have hsp'' : s.sp - 3 + 3 = s.sp := by bv_omega
    have hfirst : stackCell (s.sp - 2) ≠ stackCell s.sp := stackAddr_inj.not.2 (by bv_omega)
    have hsecond : stackCell (s.sp - 2) ≠ stackCell (s.sp - 1) := stackAddr_inj.not.2 (by bv_omega)
    have hflags : m'.read (stackCell (s.sp - 2)).toNat = s.p := by
      rw [hmem, assigned, if_neg hfirst, assigned, if_neg hsecond, assigned, if_pos rfl]
    have hcyc : s.cyc + 7 + 6 = s.cyc + 13 := by bv_omega
    rw [(rtiReturnsFromTrap _).2]
    simp only [State.readByte, hsp, hsp', hsp'', hflags, word_of_pushed_cells hmem, hcyc, pulledP]
  · have houtside : ∀ sp, a ≠ stackCell sp := ne_stackAddr ha
    rw [hmem, assigned_of_notMem (by simp [houtside])]

end Sys2Proof.Machine
end

section
/-! PROOF. The illegal-instruction halt (O8, O9) and the runs that complete (O10). -/

namespace Sys2Proof.Machine

/-- Settles O8: the fetch finds no instruction for a listed opcode. -/
theorem illegalOpcodeHalts : Obligations.IllegalOpcodeHalts := by
  unfold Obligations.IllegalOpcodeHalts
  intro s hrun hop
  have hstep := step_illegal hrun ((fetchInstr_eq_none_iff s).2 hop)
  exact ⟨hstep, transact_step hstep⟩

/-- A halted core stays as it is in a run of any length (60_exceptions.md R302). -/
theorem run_halted {s : State} (h : s.halted = true) (n : Nat) : Host.Core.run core n s = .next s := by
  induction n with
  | zero => rfl
  | succ n ih => exact (run_next core n (step_halted h)).trans ih

theorem State.writeByte_halted (s : State) (a : Addr) (v : Byte) : (s.writeByte a v).halted = s.halted :=
  congrArg Option.isSome (s.writeByte_halt a v)

/-- No transaction but reset ends the halt (60_exceptions.md R302). -/
theorem transact_keeps_halt {s : State} (h : s.halted = true) {t : Transaction} (ht : t ≠ .reset) :
    ∃ s' r, transact t s = .next (s', r) ∧ s'.halted = true := by
  cases t with
  | reset => exact absurd rfl ht
  | step => exact ⟨s, _, transact_step (step_halted h), h⟩
  | readByte a | readWord a | enterProgrammingMode | exitProgrammingMode => exact ⟨_, _, rfl, h⟩
  | writeByte a v => exact ⟨_, _, rfl, (s.writeByte_halted a v).trans h⟩
  | writeWord a w =>
    exact ⟨_, _, rfl, ((State.writeByte_halted _ _ _).trans (s.writeByte_halted a (lo w))).trans h⟩

/-- Settles O9: the run by `run_halted`, the other transactions by `transact_keeps_halt`, and reset clears the report. -/
theorem haltEndsOnlyByReset : Obligations.HaltEndsOnlyByReset := by
  unfold Obligations.HaltEndsOnlyByReset
  intro s h
  refine ⟨run_halted h, ?_, fun t => ?_⟩
  · rw [transact_step (step_halted h), h]
  · by_cases ht : t = .reset
    · subst ht
      exact ⟨s.hostReset, .done, rfl, iff_of_false Bool.false_ne_true (not_not_intro rfl)⟩
    · obtain ⟨s', r, htransact, hhalted⟩ := transact_keeps_halt h ht
      exact ⟨s', r, htransact, iff_of_true hhalted ht⟩

/-- Settles O10, by induction on the number of steps. -/
theorem everyRunCompletes : Obligations.EveryRunCompletes := by
  unfold Obligations.EveryRunCompletes
  intro n
  induction n with
  | zero => exact fun s => ⟨s, rfl⟩
  | succ n ih =>
    intro s
    obtain ⟨t, hstep⟩ := step_completes s
    rw [run_next core n hstep]
    exact ih t

end Sys2Proof.Machine
end

section
/-! PROOF. The cost of an instruction lies between 2 and 7 cycles (O16). -/

namespace Sys2Proof.Machine

/-! ### The bounds of the cost -/

/-- The most that a row of CYCLE_TABLE can charge (70_reset_and_hazards.md R350): its base and both of its add-ons, the
branch's at 2. -/
def maxCharge (row : CycleRow) : Nat :=
  row.base + (if row.pagePenalty then 1 else 0) + (if row.isBranch then 2 else 0)

/-- Every row of CYCLE_TABLE charges from 2 up to at most 7 cycles: by evaluation, row by row. -/
theorem cycleTable_bounds (i : Instr) : 2 ≤ (config.cycleTable i).base ∧ maxCharge (config.cycleTable i) ≤ 7 := by
  cases i <;> exact ⟨Nat.le_of_ble_eq_true rfl, Nat.le_of_ble_eq_true rfl⟩

theorem base_le_cost (i : Instr) (crossed taken : Bool) : (config.cycleTable i).base ≤ cost i crossed taken :=
  (Nat.le_add_right _ _).trans (Nat.le_add_right _ _)

theorem cost_le_maxCharge (i : Instr) (crossed taken : Bool) :
    cost i crossed taken ≤ maxCharge (config.cycleTable i) := by
  have hpage : ∀ penalty crossed : Bool,
      (if penalty && crossed then 1 else 0) ≤ if penalty then 1 else 0 := by decide
  have hbranch : ∀ isBranch crossed taken : Bool,
      (if isBranch && taken then (if crossed then 2 else 1) else 0) ≤ if isBranch then 2 else 0 := by decide
  exact Nat.add_le_add (Nat.add_le_add_left (hpage _ _) _) (hbranch _ _ _)

/-! ### The charge is the only write of CYC -/

theorem ReadSem.keeps_cyc {m : Mnemonic} {sem : Byte → State → State} (hsem : ReadSem m sem) (v : Byte) (s : State) :
    (sem v s).cyc = s.cyc := by
  cases hsem <;> rfl

theorem RmwTarget.store_cyc (o : RmwTarget) (s₀ s : State) (v : Byte) : (o.store s₀ s v).cyc = s.cyc := by
  cases o with
  | accumulator => rfl
  | memory m => exact s.writeByte_cyc _ v

theorem ImplicitSem.keeps_cyc {m : Mnemonic} {sem : State → State} (hsem : ImplicitSem m sem) (s : State) :
    (sem s).cyc = s.cyc := by
  cases hsem with
  | PHA => exact s.push_cyc s.ac
  | PHP => exact s.push_cyc s.p
  | _ => rfl

theorem State.takeTrap_cyc (s : State) (ret : Addr) : (s.takeTrap ret).cyc = s.cyc := by
  simp [State.takeTrap_eq]

/-- What a charge makes of CYC, on a state whose CYC is that of `s`. -/
theorem State.charge_cyc_of_eq {s t : State} (h : t.cyc = s.cyc) (n : Nat) :
    (t.charge n).cyc = s.cyc + BitVec.ofNat 64 n := by rw [State.charge_cyc, h]

/-- Every instruction completes and charges its cost for some crossing and some branch outcome. -/
theorem exec_charges_cost (i : Instr) (s : State) : ∃ t crossed taken, exec i s = .next t ∧
    t.cyc = s.cyc + BitVec.ofNat 64 (cost i crossed taken) := by
  have hshape := exec_shape i s
  generalize exec i s = out at hshape ⊢
  cases hshape with
  | read hsem => exact ⟨_, _, _, rfl, State.charge_cyc_of_eq (hsem.keeps_cyc _ (s.advance _)) _⟩
  | write hsem => exact ⟨_, _, _, rfl, State.charge_cyc_of_eq ((s.advance _).writeByte_cyc _ _) _⟩
  | @rmw o sem hsem hacc =>
    exact ⟨_, _, _, rfl, State.charge_cyc_of_eq (o.store_cyc s ((s.advance o.length).withP _) _) _⟩
  | implicit hsem => exact ⟨_, _, _, rfl, State.charge_cyc_of_eq (hsem.keeps_cyc (s.advance 1)) _⟩
  | branch hsem => exact ⟨_, _, _, rfl, rfl⟩
  | jump hi => exact ⟨_, _, _, rfl, rfl⟩
  | call hi => exact ⟨_, _, _, rfl, State.charge_cyc_of_eq (s.push16_cyc _) _⟩
  | trap hi => exact ⟨_, _, _, rfl, State.charge_cyc_of_eq (s.takeTrap_cyc _) _⟩

/-- Settles O16: the charge is the instruction's cost, which lies within its row's bounds. -/
theorem costBetweenTwoAndSeven : Obligations.CostBetweenTwoAndSeven := by
  unfold Obligations.CostBetweenTwoAndSeven
  intro i s
  obtain ⟨t, crossed, taken, hexec, hcyc⟩ := exec_charges_cost i s
  obtain ⟨hlow, hhigh⟩ := cycleTable_bounds i
  exact ⟨t, cost i crossed taken, hexec, hlow.trans (base_le_cost i crossed taken),
    (cost_le_maxCharge i crossed taken).trans hhigh, hcyc⟩

end Sys2Proof.Machine
end

section
/-! PROOF. Loads (O51) and stores (O52), in every form. -/

namespace Sys2Proof.Machine

open Sys2Proof.Claims

/-- Settles O51: each of the three semantics loads its register with the operand. -/
theorem loadEveryForm : Obligations.LoadEveryForm := by
  unfold Obligations.LoadEveryForm
  intro b w s f v
  have hlda : ∀ f ∈ ldaForms b w, exec f.instr s = runRead f.instr f.operand loadAc s := List.map_inj_left.1 rfl
  have hldx : ∀ f ∈ ldxForms b w, exec f.instr s = runRead f.instr f.operand loadIx s := List.map_inj_left.1 rfl
  have hldy : ∀ f ∈ ldyForms b w, exec f.instr s = runRead f.instr f.operand loadIy s := List.map_inj_left.1 rfl
  refine ⟨fun hf => ?_, fun hf => ?_, fun hf => ?_⟩
  · obtain ⟨hop, hexec⟩ := exec_readForms (b := b) (w := w) (by simp [readForms, hf]) (hlda f hf)
    exact ⟨hop, _, flagsBecome_setNZ s.p v, hexec⟩
  · obtain ⟨hop, hexec⟩ := exec_readForms (b := b) (w := w) (by simp [readForms, hf]) (hldx f hf)
    exact ⟨hop, _, flagsBecome_setNZ s.p v, hexec⟩
  · obtain ⟨hop, hexec⟩ := exec_readForms (b := b) (w := w) (by simp [readForms, hf]) (hldy f hf)
    exact ⟨hop, _, flagsBecome_setNZ s.p v, hexec⟩

/-! ### Stores -/

theorem hasOpcode_writeForms (b : Byte) (w : Addr) : ∀ f ∈ writeForms b w, f.hasOpcode :=
  List.map_inj_left.1 rfl

theorem length_writeForms (b : Byte) (w : Addr) : ∀ f ∈ writeForms b w, f.operand.length = f.length :=
  List.map_inj_left.1 rfl

/-- No store costs more for a page crossing (70_reset_and_hazards.md R352). -/
theorem crossAdds_writeForms (b : Byte) (w : Addr) : ∀ f ∈ writeForms b w, f.crossAdds = false :=
  List.map_inj_left.1 rfl

/-- A form that runs in the frame of the storing instructions writes the cell, unless the write is discarded, with the
length and the cost that it lists. -/
theorem exec_writeForms {b : Byte} {w : Addr} {f : Form MemMode} (hf : f ∈ writeForms b w) {s : State} {v : Byte}
    (hrun : exec f.instr s = runWrite f.instr f.operand v s) :
    ∃ m', exec f.instr s = .next { f.after (f.operand.crossed s) s with mem := m' } ∧
      MemoryBecomes s m' (admitted s (f.operand.ea s) v) := by
  refine ⟨_, ?_, (s.advance f.length).memoryBecomes_writeByte (f.operand.ea s) v⟩
  rw [hrun, runWrite_eq, length_writeForms b w f hf, cost_of_cycleTable (cycleTable_writeForms b w f hf),
    State.writeByte_eq_withMem]
  rfl

/-- Settles O52: the three instructions store their register in the frame of `exec_writeForms`. -/
theorem storeEveryForm : Obligations.StoreEveryForm := by
  unfold Obligations.StoreEveryForm
  intro b w s v f h
  have hsta : ∀ f ∈ staForms b w, exec f.instr s = runWrite f.instr f.operand s.ac s := List.map_inj_left.1 rfl
  have hstx : ∀ f ∈ stxForms b w, exec f.instr s = runWrite f.instr f.operand s.ix s := List.map_inj_left.1 rfl
  have hsty : ∀ f ∈ styForms b w, exec f.instr s = runWrite f.instr f.operand s.iy s := List.map_inj_left.1 rfl
  have hwrite : f ∈ writeForms b w := by
    obtain ⟨-, hf⟩ | ⟨-, hf⟩ | ⟨-, hf⟩ := h <;> simp [writeForms, hf]
  have hrun : exec f.instr s = runWrite f.instr f.operand v s := by
    obtain ⟨rfl, hf⟩ | ⟨rfl, hf⟩ | ⟨rfl, hf⟩ := h
    · exact hsta f hf
    · exact hstx f hf
    · exact hsty f hf
  exact ⟨hasOpcode_writeForms b w f hwrite, crossAdds_writeForms b w f hwrite, exec_writeForms hwrite hrun⟩

end Sys2Proof.Machine
end

section
/-! PROOF. Transfers (O53), flag instructions (O54) and NOP (O55). -/

namespace Sys2Proof.Machine

open Sys2Proof.Claims

/-- Settles O53: each transfer but TXS loads its register, so P is `setNZ`'s. -/
theorem transferRegisters : Obligations.TransferRegisters := by
  unfold Obligations.TransferRegisters
  intro s
  exact ⟨rfl, rfl, rfl, rfl, rfl, rfl, ⟨_, rfl, flagsBecome_setNZ s.p s.ac⟩, ⟨_, rfl, flagsBecome_setNZ s.p s.ac⟩,
    ⟨_, rfl, flagsBecome_setNZ s.p s.ix⟩, ⟨_, rfl, flagsBecome_setNZ s.p s.iy⟩,
    ⟨_, rfl, flagsBecome_setNZ s.p s.sp⟩, rfl⟩

theorem flagsBecome_setFlag (p : Byte) (f : Flag) (x : Bool) : FlagsBecome p (setFlag p f x) [(f, x)] :=
  fun g => getFlag_setFlag p f g x

theorem encode_flagForms : ∀ f ∈ flagForms, encode f.1 = [f.2.1] := List.map_inj_left.1 rfl

/-- Each flag instruction assigns its flag, past its one byte and for two cycles. -/
theorem exec_flagForms (s : State) : ∀ f ∈ flagForms,
    exec f.1 s = .next (((s.advance 1).withFlag f.2.2.1 f.2.2.2).charge 2) := List.map_inj_left.1 rfl

/-- Settles O54: the flag by `flagsBecome_setFlag`. -/
theorem flagInstructions : Obligations.FlagInstructions := by
  unfold Obligations.FlagInstructions
  exact fun s f hf => ⟨encode_flagForms f hf, _, exec_flagForms s f hf, flagsBecome_setFlag s.p f.2.2.1 f.2.2.2⟩

/-- Settles O55, by definition. -/
theorem nopOnlyAdvances : Obligations.NopOnlyAdvances := by
  unfold Obligations.NopOnlyAdvances
  exact fun s => ⟨rfl, rfl⟩

end Sys2Proof.Machine
end

section
/-! PROOF. Reset (O56) and the reset vector that was never programmed (O57). -/

namespace Sys2Proof.Machine

/-- Settles O56, by definition. -/
theorem resetFromAnyState : Obligations.ResetFromAnyState := by
  unfold Obligations.ResetFromAnyState
  exact fun s => ⟨_, rfl, rfl⟩

/-- Settles O57 from O56 and O8: the vector is 0xFFFF, and opcode 0xFF there has no dispatch entry. -/
theorem unprogrammedVectorHalts : Obligations.UnprogrammedVectorHalts := by
  unfold Obligations.UnprogrammedVectorHalts
  refine ⟨fun s hlow hhigh hop => ?_, rfl, rfl, rfl, rfl⟩
  obtain ⟨t, hreset, ht⟩ := resetFromAnyState s
  have hpc : t.pc = 0xFFFF := by
    rw [ht, hlow, hhigh]
    rfl
  have hopcode : t.readByte t.pc = 0xFF := by
    rw [hpc, ht]
    exact hop
  have hrun : t.halted = false := by
    rw [ht]
    rfl
  have hunimplemented : t.readByte t.pc ∈ unimplementedOpcodes := by
    rw [hopcode]
    decide
  refine ⟨t, hreset, hpc, by rw [ht], ?_⟩
  rw [(illegalOpcodeHalts t hrun hunimplemented).1, hopcode, hpc]

end Sys2Proof.Machine
end
